-- ==== Sys2Proof/Word.lean ====
section
/-! DEFINITION. The widths of the machine: bytes, 16-bit words, the 12-bit immediate, nibbles and register numbers
(spec/00_scope.md R7, R10; spec/10_state.md R20). -/

namespace Sys2Proof

/-- A byte: a V register, a timer, a memory cell, the immediate `KK` (R7 `REG_BITS`, `TIMER_BITS`). -/
abbrev Byte := BitVec 8

/-- A 16-bit word: `I`, `pc`, a stack slot, an opcode (R7 `I_BITS`, `PC_BITS`, `INSTR_BYTES`). -/
abbrev Word := BitVec 16

/-- The 12-bit immediate `NNN` (R92). -/
abbrev Imm12 := BitVec 12

/-- The 4-bit immediate `N`, or an ignored low nibble (R92). -/
abbrev Nibble := BitVec 4

/-- A register number 0 to 15, the meaning of an `X` or `Y` field (R21, R92). -/
abbrev RegNum := Fin 16

/-- A logical key number 0x0 to 0xF (R19, R41). -/
abbrev Key := Fin 16

/-- VF is register 15 (R12, R21). -/
abbrev VF : RegNum := 15

end Sys2Proof
end

