-- ==== Sys2Proof/Syntax.lean ====
section
/-! DEFINITION. The instruction set as syntax: one constructor per row of spec/opcode_table.json, in the table's order
(spec/30_encoding.md R96, R104). A field the hardware ignores is kept (the low nibble of `5XYn` and `9XYn`, `Y` of the
two shifts), so that every one of the 65536 words has an instruction of its own. -/

namespace Sys2Proof

/-- The 39 rows of the opcode table. -/
inductive Instr where
  /-- `0000` the halt sentinel (R102, R125). -/
  | halt
  /-- `00E0` clear the display (R211). -/
  | cls
  /-- `00EE` return (R143). -/
  | ret
  /-- `1NNN` jump (R141). -/
  | jp (nnn : Imm12)
  /-- `2NNN` call (R142). -/
  | call (nnn : Imm12)
  /-- `3XKK` skip if `VX = KK` (R144). -/
  | seImm (x : RegNum) (kk : Byte)
  /-- `4XKK` skip if `VX ≠ KK` (R145). -/
  | sneImm (x : RegNum) (kk : Byte)
  /-- `5XYn` skip if `VX = VY`; `n` is ignored (R101, R146). -/
  | seReg (x y : RegNum) (n : Nibble)
  /-- `6XKK` load immediate (R161). -/
  | ldImm (x : RegNum) (kk : Byte)
  /-- `7XKK` add immediate (R162). -/
  | addImm (x : RegNum) (kk : Byte)
  /-- `8XY0` copy (R163). -/
  | ldReg (x y : RegNum)
  /-- `8XY1` OR (R164). -/
  | orReg (x y : RegNum)
  /-- `8XY2` AND (R165). -/
  | andReg (x y : RegNum)
  /-- `8XY3` XOR (R166). -/
  | xorReg (x y : RegNum)
  /-- `8XY4` add with carry into VF (R167). -/
  | addReg (x y : RegNum)
  /-- `8XY5` subtract `VX − VY` (R168). -/
  | subReg (x y : RegNum)
  /-- `8XY6` shift VX right by one; `y` is ignored (R98, R169). -/
  | shr (x y : RegNum)
  /-- `8XY7` subtract `VY − VX` (R170). -/
  | subnReg (x y : RegNum)
  /-- `8XYE` shift VX left by one; `y` is ignored (R98, R171). -/
  | shl (x y : RegNum)
  /-- `9XYn` skip if `VX ≠ VY`; `n` is ignored (R101, R147). -/
  | sneReg (x y : RegNum) (n : Nibble)
  /-- `ANNN` set I (R191). -/
  | ldI (nnn : Imm12)
  /-- `BNNN` jump to `NNN + V0` (R148). -/
  | jpV0 (nnn : Imm12)
  /-- `CXKK` random byte AND KK (R172). -/
  | rnd (x : RegNum) (kk : Byte)
  /-- `DXYN` draw a sprite (R212). -/
  | drw (x y : RegNum) (n : Nibble)
  /-- `EX9E` skip if key VX is down (R231). -/
  | skp (x : RegNum)
  /-- `EXA1` skip if key VX is up (R232). -/
  | sknp (x : RegNum)
  /-- `FX07` read the delay timer (R255). -/
  | ldVxDt (x : RegNum)
  /-- `FX0A` wait for a key press (R233). -/
  | ldVxKey (x : RegNum)
  /-- `FX15` set the delay timer (R256). -/
  | ldDtVx (x : RegNum)
  /-- `FX18` set the sound timer (R257). -/
  | ldStVx (x : RegNum)
  /-- `FX1E` add VX to I (R192). -/
  | addI (x : RegNum)
  /-- `FX29` set I to the glyph of digit VX (R193). -/
  | ldFont (x : RegNum)
  /-- `FX33` store the decimal digits of VX (R194). -/
  | ldBcd (x : RegNum)
  /-- `FX55` store V0 to VX at I (R195). -/
  | storeRegs (x : RegNum)
  /-- `FX65` load V0 to VX from I (R196). -/
  | loadRegs (x : RegNum)
  /-- Any other `0NNN`: unknown, a no-op (R97, R104, R128). -/
  | unk0 (nnn : Imm12)
  /-- Any other `8XYN`: unknown, a no-op (R98, R104, R128). -/
  | unk8 (x y : RegNum) (n : Nibble)
  /-- Any other `EXKK`: unknown, a no-op (R99, R104, R128). -/
  | unkE (x : RegNum) (kk : Byte)
  /-- Any other `FXKK`: unknown, a no-op (R100, R104, R128). -/
  | unkF (x : RegNum) (kk : Byte)
  deriving DecidableEq, Repr

end Sys2Proof
end

