-- ==== Sys2Proof/WellFormed.lean ====
section
/-! DEFINITION. Which terms of `Instr` are instructions of the machine: the catch-all rows of the opcode table come last
(spec/30_encoding.md R109), so an "unknown" instruction whose fields spell a known word is no instruction. Every other
constructor is well-formed at every value of its fields. -/

namespace Sys2Proof

/-- The words of family 0 with a meaning, as `opcode[11:0]` (R97). -/
def codes0 : List Imm12 := [0x000#12, 0x0E0#12, 0x0EE#12]

/-- The codes of family 8 with a meaning, as `opcode[3:0]` (R98). -/
def codes8 : List Nibble := [0x0#4, 0x1#4, 0x2#4, 0x3#4, 0x4#4, 0x5#4, 0x6#4, 0x7#4, 0xE#4]

/-- The codes of family E with a meaning, as `opcode[7:0]` (R99). -/
def codesE : List Byte := [0x9E#8, 0xA1#8]

/-- The codes of family F with a meaning, as `opcode[7:0]` (R100). -/
def codesF : List Byte := [0x07#8, 0x0A#8, 0x15#8, 0x18#8, 0x1E#8, 0x29#8, 0x33#8, 0x55#8, 0x65#8]

/-- An instruction is well-formed unless it is an "unknown" one whose code has a meaning (R104, R109). -/
def Instr.wf : Instr → Bool
  | .unk0 nnn => !codes0.contains nnn
  | .unk8 _ _ n => !codes8.contains n
  | .unkE _ kk => !codesE.contains kk
  | .unkF _ kk => !codesF.contains kk
  | .halt | .cls | .ret | .jp _ | .call _ | .seImm _ _ | .sneImm _ _ | .seReg _ _ _ | .ldImm _ _ | .addImm _ _
  | .ldReg _ _ | .orReg _ _ | .andReg _ _ | .xorReg _ _ | .addReg _ _ | .subReg _ _ | .shr _ _ | .subnReg _ _
  | .shl _ _ | .sneReg _ _ _ | .ldI _ | .jpV0 _ | .rnd _ _ | .drw _ _ _ | .skp _ | .sknp _ | .ldVxDt _ | .ldVxKey _
  | .ldDtVx _ | .ldStVx _ | .addI _ | .ldFont _ | .ldBcd _ | .storeRegs _ | .loadRegs _ => true

/-- The unknown secondary codes, the no-ops of R128. -/
def Instr.isUnknown : Instr → Bool
  | .unk0 _ | .unk8 _ _ _ | .unkE _ _ | .unkF _ _ => true
  | .halt | .cls | .ret | .jp _ | .call _ | .seImm _ _ | .sneImm _ _ | .seReg _ _ _ | .ldImm _ _ | .addImm _ _
  | .ldReg _ _ | .orReg _ _ | .andReg _ _ | .xorReg _ _ | .addReg _ _ | .subReg _ _ | .shr _ _ | .subnReg _ _
  | .shl _ _ | .sneReg _ _ _ | .ldI _ | .jpV0 _ | .rnd _ _ | .drw _ _ _ | .skp _ | .sknp _ | .ldVxDt _ | .ldVxKey _
  | .ldDtVx _ | .ldStVx _ | .addI _ | .ldFont _ | .ldBcd _ | .storeRegs _ | .loadRegs _ => false

end Sys2Proof
end

