-- ==== Sys2Proof/Decode.lean ====
section
/-! DEFINITION. Decoding and encoding (spec/30_encoding.md): the fields of a word (R92), the word's instruction in the
order R95 gives, the decoder over bytes, and after it the encoder, written from the same tables (R93, R96), and the opcode
table itself as data (R109). Every 16-bit word decodes (R103); what is refused is a list of fewer than two bytes. -/

namespace Sys2Proof

/-! ### Fields (R92) -/

/-- `op = opcode[15:12]`, the family. -/
def opField (w : Word) : Nibble := w.extractLsb' 12 4

/-- `X = opcode[11:8]`, a register number. -/
def xField (w : Word) : RegNum := (w.extractLsb' 8 4).toFin

/-- `Y = opcode[7:4]`, a register number. -/
def yField (w : Word) : RegNum := (w.extractLsb' 4 4).toFin

/-- `N = opcode[3:0]`. -/
def nField (w : Word) : Nibble := w.extractLsb' 0 4

/-- `KK = opcode[7:0]`. -/
def kkField (w : Word) : Byte := w.extractLsb' 0 8

/-- `NNN = opcode[11:0]`. -/
def nnnField (w : Word) : Imm12 := w.extractLsb' 0 12

/-! ### Decoding a word (R95) -/

/-- Family 0 is decoded on all of `opcode[11:0]` (R97, R102). -/
def decodeFamily0 (w : Word) : Instr :=
  if nnnField w = 0x000#12 then .halt
  else if nnnField w = 0x0E0#12 then .cls
  else if nnnField w = 0x0EE#12 then .ret
  else .unk0 (nnnField w)

/-- Family 8 is decoded on `opcode[3:0]` (R98). -/
def decodeFamily8 (w : Word) : Instr :=
  match nField w with
  | 0x0#4 => .ldReg (xField w) (yField w)
  | 0x1#4 => .orReg (xField w) (yField w)
  | 0x2#4 => .andReg (xField w) (yField w)
  | 0x3#4 => .xorReg (xField w) (yField w)
  | 0x4#4 => .addReg (xField w) (yField w)
  | 0x5#4 => .subReg (xField w) (yField w)
  | 0x6#4 => .shr (xField w) (yField w)
  | 0x7#4 => .subnReg (xField w) (yField w)
  | 0xE#4 => .shl (xField w) (yField w)
  | n => .unk8 (xField w) (yField w) n

/-- Family E is decoded on `opcode[7:0]` (R99). -/
def decodeFamilyE (w : Word) : Instr :=
  match kkField w with
  | 0x9E#8 => .skp (xField w)
  | 0xA1#8 => .sknp (xField w)
  | kk => .unkE (xField w) kk

/-- Family F is decoded on `opcode[7:0]` (R100). -/
def decodeFamilyF (w : Word) : Instr :=
  match kkField w with
  | 0x07#8 => .ldVxDt (xField w)
  | 0x0A#8 => .ldVxKey (xField w)
  | 0x15#8 => .ldDtVx (xField w)
  | 0x18#8 => .ldStVx (xField w)
  | 0x1E#8 => .addI (xField w)
  | 0x29#8 => .ldFont (xField w)
  | 0x33#8 => .ldBcd (xField w)
  | 0x55#8 => .storeRegs (xField w)
  | 0x65#8 => .loadRegs (xField w)
  | kk => .unkF (xField w) kk

/-- The instruction of a word: `op` selects the family, and families 0, 8, E and F decode a secondary code (R95, R96).
The sentinel 0x0000 is the word of family 0 that is tested first (R102). -/
def decodeWord (w : Word) : Instr :=
  match opField w with
  | 0x0#4 => decodeFamily0 w
  | 0x1#4 => .jp (nnnField w)
  | 0x2#4 => .call (nnnField w)
  | 0x3#4 => .seImm (xField w) (kkField w)
  | 0x4#4 => .sneImm (xField w) (kkField w)
  | 0x5#4 => .seReg (xField w) (yField w) (nField w)
  | 0x6#4 => .ldImm (xField w) (kkField w)
  | 0x7#4 => .addImm (xField w) (kkField w)
  | 0x8#4 => decodeFamily8 w
  | 0x9#4 => .sneReg (xField w) (yField w) (nField w)
  | 0xA#4 => .ldI (nnnField w)
  | 0xB#4 => .jpV0 (nnnField w)
  | 0xC#4 => .rnd (xField w) (kkField w)
  | 0xD#4 => .drw (xField w) (yField w) (nField w)
  | 0xE#4 => decodeFamilyE w
  | _ => decodeFamilyF w

/-! ### Decoding bytes (R90, R91) -/

/-- Why a list of bytes holds no instruction. -/
inductive DecodeError where
  /-- Fewer than two bytes are left: every instruction is two bytes long (R90). -/
  | truncated
  deriving DecidableEq, Repr

/-- The word of two bytes: the byte at the lower address is the high one (R62, R91). -/
def joinBytes (hi lo : Byte) : Word := hi ++ lo

/-- The byte of a word at the lower address (R91). -/
def highByte (w : Word) : Byte := w.extractLsb' 8 8

/-- The byte of a word at the higher address (R91). -/
def lowByte (w : Word) : Byte := w.extractLsb' 0 8

/-- The instruction at the head of a list of bytes, with the bytes after it. -/
def decode : List Byte → Except DecodeError (Instr × List Byte)
  | hi :: lo :: rest => .ok (decodeWord (joinBytes hi lo), rest)
  | [_] | [] => .error .truncated

/-- The bytes of a word in memory order. -/
def bytesOf (w : Word) : List Byte := [highByte w, lowByte w]

/-- The 16-bit word of an opcode-table word of `nbits` bits; bits above `nbits` are 0. -/
def tableWord (nbits w : Nat) : Word := BitVec.ofNat 16 (w % 2 ^ nbits)

/-- What the decoder reads from a word numbered as spec/opcode_table.json numbers it (bit 0 least significant). -/
def decodeTableWord (nbits w : Nat) : Option Instr :=
  match decode (bytesOf (tableWord nbits w)) with
  | .ok (i, _) => some i
  | .error _ => none

/-! ### Encoding (R93, R96) -/

/-- The four bits of a register field. -/
def regBits (x : RegNum) : BitVec 4 := BitVec.ofFin x

/-- Format NNN: op, NNN. -/
def formatNNN (op : Nibble) (nnn : Imm12) : Word := op ++ nnn

/-- Format XKK (and format X, whose KK is the secondary code): op, X, KK. -/
def formatXKK (op : Nibble) (x : RegNum) (kk : Byte) : Word := (op ++ regBits x) ++ kk

/-- Formats XY and XYN: op, X, Y, then the secondary code or N. -/
def formatXYN (op : Nibble) (x y : RegNum) (n : Nibble) : Word := (op ++ regBits x) ++ (regBits y ++ n)

/-- The word of an instruction (R96). -/
def encode : Instr → Word
  | .halt => 0x0000#16
  | .cls => 0x00E0#16
  | .ret => 0x00EE#16
  | .jp nnn => formatNNN 0x1 nnn
  | .call nnn => formatNNN 0x2 nnn
  | .seImm x kk => formatXKK 0x3 x kk
  | .sneImm x kk => formatXKK 0x4 x kk
  | .seReg x y n => formatXYN 0x5 x y n
  | .ldImm x kk => formatXKK 0x6 x kk
  | .addImm x kk => formatXKK 0x7 x kk
  | .ldReg x y => formatXYN 0x8 x y 0x0
  | .orReg x y => formatXYN 0x8 x y 0x1
  | .andReg x y => formatXYN 0x8 x y 0x2
  | .xorReg x y => formatXYN 0x8 x y 0x3
  | .addReg x y => formatXYN 0x8 x y 0x4
  | .subReg x y => formatXYN 0x8 x y 0x5
  | .shr x y => formatXYN 0x8 x y 0x6
  | .subnReg x y => formatXYN 0x8 x y 0x7
  | .shl x y => formatXYN 0x8 x y 0xE
  | .sneReg x y n => formatXYN 0x9 x y n
  | .ldI nnn => formatNNN 0xA nnn
  | .jpV0 nnn => formatNNN 0xB nnn
  | .rnd x kk => formatXKK 0xC x kk
  | .drw x y n => formatXYN 0xD x y n
  | .skp x => formatXKK 0xE x 0x9E
  | .sknp x => formatXKK 0xE x 0xA1
  | .ldVxDt x => formatXKK 0xF x 0x07
  | .ldVxKey x => formatXKK 0xF x 0x0A
  | .ldDtVx x => formatXKK 0xF x 0x15
  | .ldStVx x => formatXKK 0xF x 0x18
  | .addI x => formatXKK 0xF x 0x1E
  | .ldFont x => formatXKK 0xF x 0x29
  | .ldBcd x => formatXKK 0xF x 0x33
  | .storeRegs x => formatXKK 0xF x 0x55
  | .loadRegs x => formatXKK 0xF x 0x65
  | .unk0 nnn => formatNNN 0x0 nnn
  | .unk8 x y n => formatXYN 0x8 x y n
  | .unkE x kk => formatXKK 0xE x kk
  | .unkF x kk => formatXKK 0xF x kk

/-! ### The opcode table as data (R109) -/

/-- A row of spec/opcode_table.json, less what is not decoding: its pattern, match and mask. -/
structure OpcodeRow where
  pattern : String
  matchBits : Word
  mask : Word
  deriving DecidableEq, Repr

/-- Whether a word matches a row: `(w & mask) = match` (R109). -/
def OpcodeRow.matches (r : OpcodeRow) (w : Word) : Bool := (w &&& r.mask) == r.matchBits

/-- Rows of families 0 to 7 (R96, R109). -/
def rowsLow : List OpcodeRow :=
  [⟨"0000", 0x0000, 0xFFFF⟩, ⟨"00E0", 0x00E0, 0xFFFF⟩, ⟨"00EE", 0x00EE, 0xFFFF⟩, ⟨"1NNN", 0x1000, 0xF000⟩,
   ⟨"2NNN", 0x2000, 0xF000⟩, ⟨"3XKK", 0x3000, 0xF000⟩, ⟨"4XKK", 0x4000, 0xF000⟩, ⟨"5XY0", 0x5000, 0xF000⟩,
   ⟨"6XKK", 0x6000, 0xF000⟩, ⟨"7XKK", 0x7000, 0xF000⟩]

/-- Rows of family 8 (R96, R98, R109). -/
def rows8 : List OpcodeRow :=
  [⟨"8XY0", 0x8000, 0xF00F⟩, ⟨"8XY1", 0x8001, 0xF00F⟩, ⟨"8XY2", 0x8002, 0xF00F⟩, ⟨"8XY3", 0x8003, 0xF00F⟩,
   ⟨"8XY4", 0x8004, 0xF00F⟩, ⟨"8XY5", 0x8005, 0xF00F⟩, ⟨"8XY6", 0x8006, 0xF00F⟩, ⟨"8XY7", 0x8007, 0xF00F⟩,
   ⟨"8XYE", 0x800E, 0xF00F⟩]

/-- Rows of families 9 to E (R96, R109). -/
def rowsHigh : List OpcodeRow :=
  [⟨"9XY0", 0x9000, 0xF000⟩, ⟨"ANNN", 0xA000, 0xF000⟩, ⟨"BNNN", 0xB000, 0xF000⟩, ⟨"CXKK", 0xC000, 0xF000⟩,
   ⟨"DXYN", 0xD000, 0xF000⟩, ⟨"EX9E", 0xE09E, 0xF0FF⟩, ⟨"EXA1", 0xE0A1, 0xF0FF⟩]

/-- Rows of family F (R96, R100, R109). -/
def rowsF : List OpcodeRow :=
  [⟨"FX07", 0xF007, 0xF0FF⟩, ⟨"FX0A", 0xF00A, 0xF0FF⟩, ⟨"FX15", 0xF015, 0xF0FF⟩, ⟨"FX18", 0xF018, 0xF0FF⟩,
   ⟨"FX1E", 0xF01E, 0xF0FF⟩, ⟨"FX29", 0xF029, 0xF0FF⟩, ⟨"FX33", 0xF033, 0xF0FF⟩, ⟨"FX55", 0xF055, 0xF0FF⟩,
   ⟨"FX65", 0xF065, 0xF0FF⟩]

/-- The four catch-all rows, which must stay last (R109). -/
def rowsUnknown : List OpcodeRow :=
  [⟨"0NNN", 0x0000, 0xF000⟩, ⟨"8XYN", 0x8000, 0xF000⟩, ⟨"EXKK", 0xE000, 0xF000⟩, ⟨"FXKK", 0xF000, 0xF000⟩]

/-- The ordered table of 39 rows (R109). -/
def opcodeTable : List OpcodeRow := rowsLow ++ rows8 ++ rowsHigh ++ rowsF ++ rowsUnknown

/-- The pattern of the first row a word matches (R109: "tried in order and the first match wins"). -/
def tablePattern (w : Word) : Option String := (opcodeTable.find? (·.matches w)).map (·.pattern)

/-- The opcode table's pattern of an instruction's row (R96). -/
def Instr.pattern : Instr → String
  | .halt => "0000"
  | .cls => "00E0"
  | .ret => "00EE"
  | .jp _ => "1NNN"
  | .call _ => "2NNN"
  | .seImm _ _ => "3XKK"
  | .sneImm _ _ => "4XKK"
  | .seReg _ _ _ => "5XY0"
  | .ldImm _ _ => "6XKK"
  | .addImm _ _ => "7XKK"
  | .ldReg _ _ => "8XY0"
  | .orReg _ _ => "8XY1"
  | .andReg _ _ => "8XY2"
  | .xorReg _ _ => "8XY3"
  | .addReg _ _ => "8XY4"
  | .subReg _ _ => "8XY5"
  | .shr _ _ => "8XY6"
  | .subnReg _ _ => "8XY7"
  | .shl _ _ => "8XYE"
  | .sneReg _ _ _ => "9XY0"
  | .ldI _ => "ANNN"
  | .jpV0 _ => "BNNN"
  | .rnd _ _ => "CXKK"
  | .drw _ _ _ => "DXYN"
  | .skp _ => "EX9E"
  | .sknp _ => "EXA1"
  | .ldVxDt _ => "FX07"
  | .ldVxKey _ => "FX0A"
  | .ldDtVx _ => "FX15"
  | .ldStVx _ => "FX18"
  | .addI _ => "FX1E"
  | .ldFont _ => "FX29"
  | .ldBcd _ => "FX33"
  | .storeRegs _ => "FX55"
  | .loadRegs _ => "FX65"
  | .unk0 _ => "0NNN"
  | .unk8 _ _ _ => "8XYN"
  | .unkE _ _ => "EXKK"
  | .unkF _ _ => "FXKK"

end Sys2Proof
end

