-- ==== Sys2Proof/Config.lean ====
section
/-! DEFINITION. What is fixed for the machine (spec/00_scope.md R7) and the free values of its environment: the four
step inputs, which the host drives at will (spec/10_state.md R40 to R43, spec/60_exceptions.md R286).
The default bytes of the `FONT` parameter stand in Sys2Proof/Machine/Font.lean. -/

namespace Sys2Proof.Config

/-- `MEM_SIZE`: addresses 0 to 4095 exist (R7, R60). -/
def memSize : Nat := 4096

/-- `FONT_BASE` (R7, R35). -/
def fontBase : Nat := 0x000

/-- `FONT_SIZE` (R7). -/
def fontSize : Nat := 80

/-- `GLYPH_ROWS`: bytes per glyph (R7, R35). -/
def glyphRows : Nat := 5

/-- `PROG_BASE`: the load address of the program and the initial pc (R7, R303). -/
def progBase : Nat := 0x200

/-- `MAX_IMAGE`: the largest program image in bytes (R7, R302). -/
def maxImage : Nat := memSize - progBase

/-- `STACK_DEPTH` (R7, R26). -/
def stackDepth : Nat := 16

/-- The quantum in units of `acc3`, thirds of a millisecond: 1000/60 ms is exactly 50 of them (R251, decision D5). -/
def quantum3 : Nat := 50

/-- The default of the OPEN parameter `ELAPSED_BITS` (R7, decision D4). The model puts no bound on an elapsed time, so
what it proves holds at every width (notes/assumptions/4.md). -/
def elapsedBits : Nat := 32

/-- FREE VALUE: `in.elapsed_ms` of the `n`-th step for which no input is scripted (R40). No body: any number. -/
opaque freeElapsedMs : Nat → Nat

/-- FREE VALUE: `in.keys` of the `n`-th step for which no input is scripted (R41). -/
opaque freeKeys : Nat → BitVec 16

/-- FREE VALUE: `in.key_event` of the `n`-th step for which no input is scripted (R42). -/
opaque freeKeyEvent : Nat → Option (Fin 16)

/-- FREE VALUE: `in.rand` of the `n`-th step for which no input is scripted (R43, decision D6: a draw under no law). -/
opaque freeRand : Nat → BitVec 8

end Sys2Proof.Config
end

