-- ==== Sys2Proof/Machine/Font.lean ====
section
/-! DEFINITION. The default value of the OPEN parameter `FONT` (spec/10_state.md R35, decision D25): 16 glyphs of 5 rows,
glyph `d` at bytes `5·d` to `5·d + 4`, top row first. PRESUMED: the bytes are general knowledge of CHIP-8, not the source's
(notes/assumptions/5.md). No rule of the instruction set depends on them. -/

namespace Sys2Proof.Machine

/-- Glyphs 0 to 3. -/
def glyphs0to3 : List Byte :=
  [0xF0, 0x90, 0x90, 0x90, 0xF0] ++ [0x20, 0x60, 0x20, 0x20, 0x70] ++
  [0xF0, 0x10, 0xF0, 0x80, 0xF0] ++ [0xF0, 0x10, 0xF0, 0x10, 0xF0]

/-- Glyphs 4 to 7. -/
def glyphs4to7 : List Byte :=
  [0x90, 0x90, 0xF0, 0x10, 0x10] ++ [0xF0, 0x80, 0xF0, 0x10, 0xF0] ++
  [0xF0, 0x80, 0xF0, 0x90, 0xF0] ++ [0xF0, 0x10, 0x20, 0x40, 0x40]

/-- Glyphs 8 to B. -/
def glyphs8toB : List Byte :=
  [0xF0, 0x90, 0xF0, 0x90, 0xF0] ++ [0xF0, 0x90, 0xF0, 0x10, 0xF0] ++
  [0xF0, 0x90, 0xF0, 0x90, 0x90] ++ [0xE0, 0x90, 0xE0, 0x90, 0xE0]

/-- Glyphs C to F. -/
def glyphsCtoF : List Byte :=
  [0xF0, 0x80, 0x80, 0x80, 0xF0] ++ [0xE0, 0x90, 0x90, 0x90, 0xE0] ++
  [0xF0, 0x80, 0xF0, 0x80, 0xF0] ++ [0xF0, 0x80, 0xF0, 0x80, 0x80]

/-- The 80 bytes of the default font. -/
def fontBytes : List Byte := glyphs0to3 ++ glyphs4to7 ++ glyphs8toB ++ glyphsCtoF

/-- The default font as the parameter of construction (R48). -/
def defaultFont : Vector Byte 80 := ⟨fontBytes.toArray, by decide⟩

end Sys2Proof.Machine
end

