-- ==== Sys2Proof/Machine/State.lean ====
section
/-! DEFINITION. The state of the core as plain data (spec/10_state.md R20), the fault reasons, the outcome of a step, the
ports, and the state right after construction with an empty image (spec/10_state.md R38, spec/70_reset_and_hazards.md
R300). Each field says the rule that names it; the last four fields are the ports, of which `inp`, `pending` and `draws` are
the model's own (notes/assumptions/2.md). -/

namespace Sys2Proof.Machine

/-- The fault reasons (R271). The spec describes what taking one does (R130, R275), so the machine takes it: a NEXT state
with the latch `State.fault` set. No step and no meaning answers `Host.Outcome.fault` (notes/assumptions/1.md). -/
inductive Fault where
  /-- `StackOverflow` (code 1): raised by `2NNN` when 16 return addresses are held (R272). Safe: it is the spec's own. -/
  | stackOverflow
  /-- `StackUnderflow` (code 2): raised by `00EE` when none is held (R273). Safe: it is the spec's own. -/
  | stackUnderflow
  /-- `MemoryBounds` (code 3): raised by the fetch, `DXYN`, `FX33`, `FX55` and `FX65` when an address is above 4095
  (R274). Safe: it is the spec's own. -/
  | memoryBounds
  deriving DecidableEq, Repr

/-- Why a step has no meaning. -/
inductive Refusal where
  /-- An instruction whose arm of `exec` has no meaning yet. Safe. No arm uses it: every instruction has its meaning. -/
  | notModelled (mnemonic : String)
  deriving DecidableEq, Repr

/-- The `CycleOutcome` of a step (R16, R270), shown on the output port `outcome` (R44). -/
inductive CycleOutcome where
  /-- `Continue`: an instruction or unknown code ran, or the engine polled for a key. -/
  | continued
  /-- `Halted`: the sentinel 0x0000 was fetched. -/
  | halted
  /-- `Fault(reason)`. -/
  | faulted (reason : Fault)
  deriving DecidableEq, Repr

/-- The four inputs of a step (R13, R40 to R43). -/
structure StepInput where
  /-- `in.elapsed_ms`: unsigned milliseconds since the previous step (R40). -/
  elapsedMs : Nat
  /-- `in.keys`: bit `k` is 1 while logical key `k` is down (R41). -/
  keys : BitVec 16
  /-- `in.key_event`: the key-press event offered in this step, if any (R42). -/
  keyEvent : Option Key
  /-- `in.rand`: a byte under no law (R43). -/
  rand : Byte
  deriving DecidableEq, Repr

/-- The outputs that are not a function of the state proper (R44, R47). -/
structure StepOutput where
  /-- The outcome of the step just made (R44). -/
  outcome : CycleOutcome
  /-- `key_poll`: the step looked at `in.key_event` (R47). -/
  keyPoll : Bool
  /-- `unknown_op`: the step decoded an unknown secondary code (R47). -/
  unknownOp : Bool
  deriving DecidableEq, Repr

/-- Memory: the cells that differ from the reset contents, addresses strictly rising (R30). -/
abbrev Memory := List Host.Cell

/-- The framebuffer: 32 rows; bit `x` of row `y` is the pixel in column `x` (R29, R45). -/
abbrev Framebuffer := Vector (BitVec 64) 32

/-- The register file V0 to VF (R21). -/
abbrev RegFile := Vector Byte 16

structure State where
  /-- V0 to VF (R21). -/
  V : RegFile
  /-- The index register (R23). -/
  I : Word
  /-- The program counter (R24). -/
  pc : Word
  /-- The 16 slots of the call stack (R26). -/
  stack : Vector Word 16
  /-- The number of return addresses held, 0 to 16 (R26, R39). -/
  sp : Fin 17
  /-- The delay timer (R27). -/
  DT : Byte
  /-- The sound timer (R27). -/
  ST : Byte
  /-- The timer accumulator in thirds of a millisecond, 0 to 49 (R28). -/
  acc3 : Fin 50
  /-- The framebuffer (R29). -/
  fb : Framebuffer
  /-- The memory (R30). -/
  mem : Memory
  /-- The key-wait sub-state: `some x` is `WaitingForKey(x)` (R31). -/
  wait : Option RegNum
  /-- The fault latch (R33). -/
  fault : Option Fault
  /-- The inputs sampled by the step in progress (R49). -/
  inp : StepInput
  /-- The inputs the host presents to the coming steps, oldest first. -/
  pending : List StepInput
  /-- How many steps drew their inputs from Config's free values. -/
  draws : Nat
  /-- The outputs driven by the last step (R44, R47, R49). -/
  out : StepOutput
  deriving DecidableEq, Repr

/-- Inputs at rest: no time passes, no key is down, no event, random byte 0. -/
def StepInput.idle : StepInput := ⟨0, 0, none, 0⟩

/-- Outputs of a step that has nothing to report: `Continue`, both strobes 0. -/
def StepOutput.quiet : StepOutput := ⟨.continued, false, false⟩

/-- The state after construction with an empty image (R38, R300). Memory lists nothing: it reads as `FONT`, then zeros. -/
def State.reset : State where
  V := Vector.replicate 16 0
  I := 0
  pc := BitVec.ofNat 16 Config.progBase
  stack := Vector.replicate 16 0
  sp := 0
  DT := 0
  ST := 0
  acc3 := 0
  fb := Vector.replicate 32 0
  mem := []
  wait := none
  fault := none
  inp := .idle
  pending := []
  draws := 0
  out := .quiet

end Sys2Proof.Machine
end

