-- ==== Sys2Proof/Machine/Ops.lean ====
section
/-! DEFINITION. The named operations over memory, registers, stack and framebuffer, and taking a fault: every instruction's
meaning is written in terms of these (spec/00_scope.md R14, R15; spec/10_state.md; spec/20_memory.md;
spec/60_exceptions.md R275). -/

namespace Sys2Proof.Machine

/-- What a meaning answers. -/
abbrev Result := Host.Outcome State Fault Refusal

/-! ### Memory (R14, R30, R60 to R71) -/

/-- What an address reads as when no cell is listed for it: the contents after construction with the default font and an
empty image (R38, R61): `FONT[a]` at 0x000 to 0x04F and 0 elsewhere. -/
def Memory.background (a : Nat) : Byte := fontBytes.getD a 0

/-- The byte at an address (R69): the listed cell, or the background. The list is sorted, so the search stops early. -/
def Memory.read : Memory → Nat → Byte
  | [], a => Memory.background a
  | (b, v) :: m, a =>
    if a < b then Memory.background a
    else if a = b then v
    else Memory.read m a

/-- A cell in front of a memory whose cells all lie above it, unless it holds what the background holds. -/
def Memory.consCell (a : Nat) (v : Byte) (m : Memory) : Memory :=
  if v = Memory.background a then m else (a, v) :: m

/-- Set the byte at an address (R14, R69), keeping the canonical form. -/
def Memory.write : Memory → Nat → Byte → Memory
  | [], a, v => Memory.consCell a v []
  | (b, w) :: m, a, v =>
    if a < b then Memory.consCell a v ((b, w) :: m)
    else if a = b then Memory.consCell a v m
    else (b, w) :: Memory.write m a v

/-- The canonical form from a bound on: addresses at least `lo`, strictly rising, below 4096, and no cell that holds what
an unlisted address reads as. -/
def Memory.wfFrom : Nat → Memory → Bool
  | _, [] => true
  | lo, (a, v) :: m =>
    decide (lo ≤ a) && decide (a < Config.memSize) && decide (v ≠ Memory.background a) && Memory.wfFrom (a + 1) m

/-- The canonical form of memory: equal memories are equal lists. -/
def Memory.wf (m : Memory) : Bool := Memory.wfFrom 0 m

/-- Whether an address exists (R60, R67). The argument is a natural number, never reduced before the check (R14, R80). -/
def inMemory (a : Nat) : Bool := decide (a < Config.memSize)

/-- `MemRead(a, 1)`: the byte at `a`, or nothing where the spec raises `MemoryBounds` (R14). -/
def Memory.readByte (m : Memory) (a : Nat) : Option Byte := if inMemory a then some (m.read a) else none

/-- `MemRead(a, 2)`, used by the fetch only: big-endian, `a + 1` without wrap (R14, R62). -/
def Memory.readWord (m : Memory) (a : Nat) : Option Word :=
  match m.readByte a, m.readByte (a + 1) with
  | some hi, some lo => some (joinBytes hi lo)
  | _, _ => none

/-- Place a list of bytes at ascending addresses. -/
def Memory.writeBytes (m : Memory) (a : Nat) : List Byte → Memory
  | [] => m
  | b :: bs => Memory.writeBytes (m.write a b) (a + 1) bs

/-- The bytes at `n` ascending addresses. -/
def Memory.readBytes (m : Memory) (a : Nat) : Nat → List Byte
  | 0 => []
  | n + 1 => m.read a :: Memory.readBytes m (a + 1) n

/-! ### Registers (R21, R23, R24) -/

/-- `V[x]` (R12, R21). -/
def State.readV (s : State) (x : RegNum) : Byte := s.V[x]

/-- `V[x] <- v` (R12, R21): every register, VF included, is written alike. -/
def State.writeV (s : State) (x : RegNum) (v : Byte) : State := { s with V := s.V.set x v }

/-- `I <- v` (R23). -/
def State.writeI (s : State) (v : Word) : State := { s with I := v }

/-- `pc <- target` (R12). -/
def State.setPc (s : State) (target : Word) : State := { s with pc := target }

/-- `pc <- pc + 2`, modulo 65536 (R24, R127). -/
def State.advance (s : State) : State := s.setPc (s.pc + 2)

/-- `pc <- pc + 4` if the condition holds, else `pc <- pc + 2` (R127, R140). -/
def State.skipIf (s : State) (c : Bool) : State := s.setPc (if c then s.pc + 4 else s.pc + 2)

/-- `DT <- v` (R27). -/
def State.writeDT (s : State) (v : Byte) : State := { s with DT := v }

/-- `ST <- v` (R27). -/
def State.writeST (s : State) (v : Byte) : State := { s with ST := v }

/-- Replace the memory. -/
def State.withMem (s : State) (m : Memory) : State := { s with mem := m }

/-- Replace the register file. -/
def State.withV (s : State) (v : RegFile) : State := { s with V := v }

/-- Replace the framebuffer. -/
def State.withFb (s : State) (f : Framebuffer) : State := { s with fb := f }

/-- `wait <- w` (R31). -/
def State.setWait (s : State) (w : Option RegNum) : State := { s with wait := w }

/-! ### Outputs (R44, R47) -/

/-- Report the outcome of the step (R44). -/
def State.report (s : State) (o : CycleOutcome) : State := { s with out := { s.out with outcome := o } }

/-- `key_poll <- 1` (R47, R234). -/
def State.strobeKeyPoll (s : State) : State := { s with out := { s.out with keyPoll := true } }

/-- `unknown_op <- 1` (R47, R128). -/
def State.strobeUnknown (s : State) : State := { s with out := { s.out with unknownOp := true } }

/-! ### Taking a fault (R15, R130, R275) and the latched step (R121) -/

/-- `raise Fault(r)`: the latch is set and the outcome is `Fault(r)`; everything else is as it was (R130). The meanings
raise before their first write, so a raising instruction has no other effect (R15, R68). There is no return (R276). -/
def State.raise (s : State) (r : Fault) : State := { s.report (.faulted r) with fault := some r }

/-- A step that begins latched returns the same fault and changes nothing; both strobes are 0 (R121). -/
def State.latchedStep (s : State) (r : Fault) : State := { s with out := ⟨.faulted r, false, false⟩ }

/-! ### The call stack (R26, R142, R143) -/

/-- Push a return address: `none` when 16 are held (R142). -/
def State.push (s : State) (a : Word) : Option State :=
  if h : s.sp.val < 16 then
    some { s with stack := s.stack.set s.sp.val a, sp := ⟨s.sp.val + 1, by omega⟩ }
  else none

/-- Pop a return address: `none` when none is held; the vacated slot keeps its value (R26, R143). -/
def State.pop (s : State) : Option (Word × State) :=
  if h : 0 < s.sp.val then
    some (s.stack[s.sp.val - 1]'(by have := s.sp.isLt; omega), { s with sp := ⟨s.sp.val - 1, by omega⟩ })
  else none

/-! ### Pixels (R29) -/

/-- `fb[y][x]` (R29). -/
def Framebuffer.pixel (f : Framebuffer) (x : Fin 64) (y : Fin 32) : Bool := f[y].getLsbD x.val

/-- `fb[y][x] <- b` (R29). -/
def Framebuffer.setPixel (f : Framebuffer) (x : Fin 64) (y : Fin 32) (b : Bool) : Framebuffer :=
  f.set y (if b then f[y] ||| BitVec.twoPow 64 x.val else f[y] &&& ~~~ BitVec.twoPow 64 x.val)

/-- Every pixel 0 (R211). -/
def Framebuffer.blank : Framebuffer := Vector.replicate 32 0

/-! ### Block transfers (R195, R196) -/

/-- Store `V[0]` to `V[n − 1]` at ascending addresses from `a` (R195). -/
def storeRange (v : RegFile) (a : Nat) (m : Memory) : Nat → Memory
  | 0 => m
  | n + 1 => if h : n < 16 then (storeRange v a m n).write (a + n) v[n] else storeRange v a m n

/-- Load `V[0]` to `V[n − 1]` from ascending addresses from `a` (R196). -/
def loadRange (m : Memory) (a : Nat) (v : RegFile) : Nat → RegFile
  | 0 => v
  | n + 1 => if h : n < 16 then (loadRange m a v n).set n (m.read (a + n)) else loadRange m a v n

end Sys2Proof.Machine
end

