-- ==== Sys2Proof/Machine/Flags.lean ====
section
/-! DEFINITION. The flag computations: what the six flag writers put in VF (spec/10_state.md R22). Each is 0 or 1. -/

namespace Sys2Proof.Machine

/-- A flag as a register value: 1 or 0 (R22). -/
def flagByte (c : Bool) : Byte := if c then 1 else 0

/-- `8XY4`: 1 exactly when `a + b > 255` (R167). -/
def carryFlag (a b : Byte) : Byte := flagByte (decide (a.toNat + b.toNat > 255))

/-- `8XY5` with `a − b`, `8XY7` with the operands swapped: 1 exactly when the minuend is strictly greater (R168, R170). -/
def greaterFlag (a b : Byte) : Byte := flagByte (decide (a.toNat > b.toNat))

/-- `8XY6`: bit 0 before the shift (R169). -/
def lowBitFlag (a : Byte) : Byte := flagByte (a.getLsbD 0)

/-- `8XYE`: bit 7 before the shift, as 0 or 1 (R171). -/
def highBitFlag (a : Byte) : Byte := flagByte (a.getLsbD 7)

end Sys2Proof.Machine
end

