-- ==== Sys2Proof/Machine/Operands.lean ====
section
/-! DEFINITION. The operand forms of the instruction set (spec/30_encoding.md R94, spec/43_index_memory.md R197): immediates
taken unsigned, the low nibble of a register as a digit or a key number, the byte at `I + k`. -/

namespace Sys2Proof.Machine

/-- `NNN` or a byte widened to 16 bits by zeros (R10, R94). -/
def zext16 {n : Nat} (v : BitVec n) : Word := v.setWidth 16

/-- `v[3:0]` as a number 0 to 15: a font digit (R193) or a key number (R236). -/
def lowNibble (v : Byte) : Fin 16 := (v.extractLsb' 0 4).toFin

/-- The effective address `I + k`, a natural number without wrap (R80, R197). -/
def State.addr (s : State) (k : Nat) : Nat := s.I.toNat + k

/-- The address of the glyph of a digit: `FONT_BASE + 5·d` (R35, R193). -/
def fontAddress (d : Fin 16) : Word := BitVec.ofNat 16 (Config.fontBase + Config.glyphRows * d.val)

/-- `in.keys[k]`: whether logical key `k` is down in this step (R41). -/
def State.keyDown (s : State) (k : Key) : Bool := s.inp.keys.getLsbD k.val

/-- The three decimal digits of a byte: hundreds, tens, units (R194). -/
def bcdDigits (v : Byte) : List Byte :=
  [BitVec.ofNat 8 (v.toNat / 100), BitVec.ofNat 8 (v.toNat / 10 % 10), BitVec.ofNat 8 (v.toNat % 10)]

end Sys2Proof.Machine
end

