-- ==== Sys2Proof/Machine/Alu.lean ====
section
/-! DEFINITION. Register, arithmetic, logic and random instructions (spec/42_register_ops.md). Operands are read first, the
result is written to VX, the flag (if any) is written to VF last, then pc moves on (R160). -/

namespace Sys2Proof.Machine

/-- Write a result and go on: the shape of an instruction without a flag (R160 b, d). -/
def State.finish (s : State) (x : RegNum) (v : Byte) : State := (s.writeV x v).advance

/-- Write a result, then the flag, and go on: with `x = 15` the flag wins (R160 b, c, d). -/
def State.finishFlag (s : State) (x : RegNum) (v f : Byte) : State := ((s.writeV x v).writeV VF f).advance

/-- `6XKK` (R161): `V[X] <- KK`. -/
def execLdImm (x : RegNum) (kk : Byte) (s : State) : Result := .next (s.finish x kk)

/-- `7XKK` (R162): `V[X] <- (V[X] + KK) mod 256`, no flag. -/
def execAddImm (x : RegNum) (kk : Byte) (s : State) : Result := .next (s.finish x (s.readV x + kk))

/-- `8XY0` (R163): `V[X] <- V[Y]`. -/
def execLdReg (x y : RegNum) (s : State) : Result := .next (s.finish x (s.readV y))

/-- `8XY1` (R164): bitwise OR; VF unchanged (R174). -/
def execOrReg (x y : RegNum) (s : State) : Result := .next (s.finish x (s.readV x ||| s.readV y))

/-- `8XY2` (R165): bitwise AND; VF unchanged (R174). -/
def execAndReg (x y : RegNum) (s : State) : Result := .next (s.finish x (s.readV x &&& s.readV y))

/-- `8XY3` (R166): bitwise exclusive OR; VF unchanged (R174). -/
def execXorReg (x y : RegNum) (s : State) : Result := .next (s.finish x (s.readV x ^^^ s.readV y))

/-- `8XY4` (R167): add, VF the carry. -/
def execAddReg (x y : RegNum) (s : State) : Result :=
  .next (s.finishFlag x (s.readV x + s.readV y) (carryFlag (s.readV x) (s.readV y)))

/-- `8XY5` (R168): `VX − VY`, VF 1 exactly when `VX > VY`. -/
def execSubReg (x y : RegNum) (s : State) : Result :=
  .next (s.finishFlag x (s.readV x - s.readV y) (greaterFlag (s.readV x) (s.readV y)))

/-- `8XY6` (R169): VX halved, VF the old bit 0; `y` is ignored (R98). -/
def execShr (x _y : RegNum) (s : State) : Result :=
  .next (s.finishFlag x (s.readV x >>> 1) (lowBitFlag (s.readV x)))

/-- `8XY7` (R170): `VY − VX`, VF 1 exactly when `VY > VX`. -/
def execSubnReg (x y : RegNum) (s : State) : Result :=
  .next (s.finishFlag x (s.readV y - s.readV x) (greaterFlag (s.readV y) (s.readV x)))

/-- `8XYE` (R171): VX doubled modulo 256, VF the old bit 7 as 0 or 1; `y` is ignored (R98). -/
def execShl (x _y : RegNum) (s : State) : Result :=
  .next (s.finishFlag x (s.readV x <<< 1) (highBitFlag (s.readV x)))

/-- `CXKK` (R172): `V[X] <- in.rand & KK`. -/
def execRnd (x : RegNum) (kk : Byte) (s : State) : Result := .next (s.finish x (s.inp.rand &&& kk))

end Sys2Proof.Machine
end

