-- ==== Sys2Proof/Machine/Control.lean ====
section
/-! DEFINITION. Control flow instructions (spec/41_control_flow.md). During the instruction `pc` still holds its own address
(R24, R140). No control transfer checks its target (R150). -/

namespace Sys2Proof.Machine

/-- `1NNN` (R141): `pc <- NNN`. -/
def execJp (nnn : Imm12) (s : State) : Result := .next (s.setPc (zext16 nnn))

/-- `2NNN` (R142): push `pc + 2`, then `pc <- NNN`; `StackOverflow` when 16 are held. -/
def execCall (nnn : Imm12) (s : State) : Result :=
  match s.push (s.pc + 2) with
  | some t => .next (t.setPc (zext16 nnn))
  | none => .next (s.raise .stackOverflow)

/-- `00EE` (R143): `pc` is the popped address, not advanced further; `StackUnderflow` when none is held. -/
def execRet (s : State) : Result :=
  match s.pop with
  | some (a, t) => .next (t.setPc a)
  | none => .next (s.raise .stackUnderflow)

/-- `3XKK` (R144): skip if `VX = KK`. -/
def execSeImm (x : RegNum) (kk : Byte) (s : State) : Result := .next (s.skipIf (s.readV x == kk))

/-- `4XKK` (R145): skip if `VX ≠ KK`. -/
def execSneImm (x : RegNum) (kk : Byte) (s : State) : Result := .next (s.skipIf (s.readV x != kk))

/-- `5XYn` (R146): skip if `VX = VY`; the low nibble is ignored (R101). -/
def execSeReg (x y : RegNum) (_n : Nibble) (s : State) : Result := .next (s.skipIf (s.readV x == s.readV y))

/-- `9XYn` (R147): skip if `VX ≠ VY`; the low nibble is ignored (R101). -/
def execSneReg (x y : RegNum) (_n : Nibble) (s : State) : Result := .next (s.skipIf (s.readV x != s.readV y))

/-- `BNNN` (R148): `pc <- (NNN + V0) mod 65536`. -/
def execJpV0 (nnn : Imm12) (s : State) : Result := .next (s.setPc (zext16 nnn + zext16 (s.readV 0)))

end Sys2Proof.Machine
end

