-- ==== Sys2Proof/Machine/Index.lean ====
section
/-! DEFINITION. Index register, loads and stores (spec/43_index_memory.md). The highest address is checked before any access
(R68, R190); no load or store changes `I` (R197). -/

namespace Sys2Proof.Machine

/-- Run an access that reaches from `I` to `I + top`: `MemoryBounds` before any access when its highest address does not
exist (R67, R68, R190). -/
def State.guarded (s : State) (top : Nat) (access : State) : Result :=
  if inMemory (s.addr top) then .next access else .next (s.raise .memoryBounds)

/-- `ANNN` (R191): `I <- NNN`. -/
def execLdI (nnn : Imm12) (s : State) : Result := .next (s.writeI (zext16 nnn)).advance

/-- `FX1E` (R192): `I <- (I + VX) mod 65536`, no flag. -/
def execAddI (x : RegNum) (s : State) : Result := .next (s.writeI (s.I + zext16 (s.readV x))).advance

/-- `FX29` (R193): `I <- FONT_BASE + 5·VX[3:0]`. -/
def execLdFont (x : RegNum) (s : State) : Result := .next (s.writeI (fontAddress (lowNibble (s.readV x)))).advance

/-- `FX33` (R194): hundreds, tens, units of VX at `I`, `I + 1`, `I + 2`. -/
def execLdBcd (x : RegNum) (s : State) : Result :=
  s.guarded 2 (s.withMem (s.mem.writeBytes (s.addr 0) (bcdDigits (s.readV x)))).advance

/-- `FX55` (R195): `V[0]` to `V[X]` to ascending addresses from `I`. -/
def execStoreRegs (x : RegNum) (s : State) : Result :=
  s.guarded x.val (s.withMem (storeRange s.V (s.addr 0) s.mem (x.val + 1))).advance

/-- `FX65` (R196): `V[0]` to `V[X]` from ascending addresses from `I`. -/
def execLoadRegs (x : RegNum) (s : State) : Result :=
  s.guarded x.val (s.withV (loadRange s.mem (s.addr 0) s.V (x.val + 1))).advance

end Sys2Proof.Machine
end

