-- ==== Sys2Proof/Machine/Display.lean ====
section
/-! DEFINITION. The sprite-compositing display engine and its two instructions (spec/44_display.md). -/

namespace Sys2Proof.Machine

/-- The column a sprite column lands on: `(VX + col) mod 64` on natural numbers (R213). -/
def spriteX (vx : Byte) (col : Nat) : Fin 64 := ⟨(vx.toNat + col) % 64, Nat.mod_lt _ (by decide)⟩

/-- The row a sprite row lands on: `(VY + row) mod 32` on natural numbers (R213). -/
def spriteY (vy : Byte) (row : Nat) : Fin 32 := ⟨(vy.toNat + row) % 32, Nat.mod_lt _ (by decide)⟩

/-- Bit of a sprite byte for a column: most significant bit first (R214). -/
def spriteBit (b : Byte) (col : Nat) : Bool := b.getLsbD (7 - col)

/-- What a draw carries along: the framebuffer and the collision so far (R212 `fb`, `hit`). -/
abbrev DrawAcc := Framebuffer × Bool

/-- One pixel: `hit` is raised when both the bit and the old pixel are 1, never lowered, and the pixel becomes the
exclusive OR (R212, R215). -/
def drawPixel (x : Fin 64) (y : Fin 32) (bit : Bool) (d : DrawAcc) : DrawAcc :=
  (d.1.setPixel x y (d.1.pixel x y ^^ bit), d.2 || (bit && d.1.pixel x y))

/-- The first `n` columns of one sprite row, left to right (R212). -/
def drawCols (b : Byte) (vx : Byte) (y : Fin 32) (d : DrawAcc) : Nat → DrawAcc
  | 0 => d
  | n + 1 => drawPixel (spriteX vx n) y (spriteBit b n) (drawCols b vx y d n)

/-- The first `n` rows of a sprite at address `a`, top to bottom, eight columns each (R212, R214). -/
def drawRows (m : Memory) (a : Nat) (vx vy : Byte) (d : DrawAcc) : Nat → DrawAcc
  | 0 => d
  | n + 1 => drawCols (m.read (a + n)) vx (spriteY vy n) (drawRows m a vx vy d n) 8

/-- The whole draw, from `hit = 0` (R212). -/
def State.drawSprite (s : State) (x y : RegNum) (n : Nat) : DrawAcc :=
  drawRows s.mem (s.addr 0) (s.readV x) (s.readV y) (s.fb, false) n

/-- `00E0` (R211): every pixel 0. -/
def execCls (s : State) : Result := .next (s.withFb Framebuffer.blank).advance

/-- The state after a draw: the framebuffer, then VF the collision, then pc (R212, R218). -/
def State.afterDraw (s : State) (d : DrawAcc) : State := ((s.withFb d.1).writeV VF (flagByte d.2)).advance

/-- `DXYN` (R212): draw `N` rows at (VX, VY), VF the collision. `N = 0` reads no memory and cannot raise (R216); otherwise
the highest sprite byte is checked first (R217). -/
def execDrw (x y : RegNum) (n : Nibble) (s : State) : Result :=
  if n.toNat = 0 then .next (s.afterDraw (s.drawSprite x y 0))
  else s.guarded (n.toNat - 1) (s.afterDraw (s.drawSprite x y n.toNat))

end Sys2Proof.Machine
end

