-- ==== Sys2Proof/Machine/Keypad.lean ====
section
/-! DEFINITION. Keypad instructions and the key-wait sub-state (spec/45_keypad.md). -/

namespace Sys2Proof.Machine

/-- `PollKey(x)` (R234): report the poll; with an event, write the key number to `V[x]`, leave the sub-state and move past
the `FX0A`. -/
def State.pollKey (s : State) (x : RegNum) : State :=
  match s.inp.keyEvent with
  | none => s.strobeKeyPoll
  | some k => ((s.strobeKeyPoll.writeV x (BitVec.ofNat 8 k.val)).setWait none).advance

/-- `EX9E` (R231): skip if key `VX[3:0]` is down (R236). -/
def execSkp (x : RegNum) (s : State) : Result := .next (s.skipIf (s.keyDown (lowNibble (s.readV x))))

/-- `EXA1` (R232): skip if key `VX[3:0]` is up (R236). -/
def execSknp (x : RegNum) (s : State) : Result := .next (s.skipIf (!s.keyDown (lowNibble (s.readV x))))

/-- `FX0A` (R233): enter the sub-state and poll in the same step. -/
def execLdVxKey (x : RegNum) (s : State) : Result := .next ((s.setWait (some x)).pollKey x)

end Sys2Proof.Machine
end

