-- ==== Sys2Proof/Machine/System.lean ====
section
/-! DEFINITION. The halt sentinel and the unknown secondary codes (spec/40_step_cycle.md R125, R128). -/

namespace Sys2Proof.Machine

/-- `0000` (R125): outcome `Halted`; nothing else changes, pc stays, the halt is not latched. -/
def execHalt (s : State) : Result := .next (s.report .halted)

/-- An unknown secondary code (R128): `unknown_op` is raised for this step and pc moves on; nothing else. -/
def State.unknownNoOp (s : State) : State := s.strobeUnknown.advance

/-- Unknown word of family 0 (R97, R128). -/
def execUnk0 (_nnn : Imm12) (s : State) : Result := .next s.unknownNoOp

/-- Unknown word of family 8 (R98, R128). -/
def execUnk8 (_x _y : RegNum) (_n : Nibble) (s : State) : Result := .next s.unknownNoOp

/-- Unknown word of family E (R99, R128). -/
def execUnkE (_x : RegNum) (_kk : Byte) (s : State) : Result := .next s.unknownNoOp

/-- Unknown word of family F (R100, R128). -/
def execUnkF (_x : RegNum) (_kk : Byte) (s : State) : Result := .next s.unknownNoOp

end Sys2Proof.Machine
end

