-- ==== Sys2Proof/Machine/Timers.lean ====
section
/-! DEFINITION. The timer subsystem and its instructions (spec/46_timers.md). -/

namespace Sys2Proof.Machine

/-- A timer after `n` ticks: lowered by `n`, never below 0 (R252, R254). -/
def tickDown (t : Byte) (n : Nat) : Byte := if n < t.toNat then BitVec.ofNat 8 (t.toNat - n) else 0

/-- `t = acc3 + 3·e`: the time to pay out, in thirds of a millisecond, a natural number (R252). -/
def State.due (s : State) (e : Nat) : Nat := s.acc3.val + 3 * e

/-- `AdvanceTimers(e)` (R252): `t div 50` ticks for both timers, `t mod 50` carried on. -/
def State.advanceTimers (s : State) (e : Nat) : State :=
  { s with
    acc3 := ⟨s.due e % Config.quantum3, Nat.mod_lt _ (by decide)⟩
    DT := tickDown s.DT (s.due e / Config.quantum3)
    ST := tickDown s.ST (s.due e / Config.quantum3) }

/-- `FX07` (R255): `V[X] <- DT`, as this step's advance has left it. -/
def execLdVxDt (x : RegNum) (s : State) : Result := .next (s.writeV x s.DT).advance

/-- `FX15` (R256): `DT <- V[X]`. -/
def execLdDtVx (x : RegNum) (s : State) : Result := .next (s.writeDT (s.readV x)).advance

/-- `FX18` (R257): `ST <- V[X]`. -/
def execLdStVx (x : RegNum) (s : State) : Result := .next (s.writeST (s.readV x)).advance

end Sys2Proof.Machine
end

