-- ==== Sys2Proof/Machine/Cycle.lean ====
section
/-! DEFINITION. The phases of a step (spec/40_step_cycle.md R120), the sampling of its inputs (spec/10_state.md R49) and the
placing of a program word. `Step.lean` only calls these. -/

namespace Sys2Proof.Machine

/-- The inputs of the `n`-th unscripted step: free values (R40 to R43; notes/assumptions/2.md). -/
def freeInput (n : Nat) : StepInput :=
  ⟨Config.freeElapsedMs n, Config.freeKeys n, Config.freeKeyEvent n, Config.freeRand n⟩

/-- Sample the four inputs, once, at the start of the step (R49): the oldest scripted ones, or free values. -/
def State.sample (s : State) : State :=
  match s.pending with
  | i :: rest => { s with inp := i, pending := rest }
  | [] => { s with inp := freeInput s.draws, draws := s.draws + 1 }

/-- The start of a step that is not latched: the inputs are sampled and the outputs are `Continue` and no strobe until a
later phase says otherwise (R49, R129). -/
def State.begin (s : State) : State := { s.sample with out := .quiet }

/-- The state in which phases 2 to 5 find the machine: inputs sampled and the timers advanced by this step's elapsed time
(phase 1, R122). -/
def State.prepared (s : State) : State := s.begin.advanceTimers s.begin.inp.elapsedMs

/-- Phase 3 (R124): the opcode at `pc`, big-endian, at any `pc`; nothing where a byte of it does not exist. -/
def State.fetch (s : State) : Option Word := s.mem.readWord s.pc.toNat

/-- Phases 3 to 6 (R124 to R130): fetch, decode (the sentinel among the rest, R125) and execute. -/
def State.runInstruction (s : State) : Result :=
  match s.fetch with
  | none => .next (s.raise .memoryBounds)
  | some w => exec (decodeWord w) s

/-- One step (R120): latch, timers, wait, fetch, decode, execute. -/
def State.cycle (s : State) : Result :=
  match s.fault with
  | some r => .next (s.latchedStep r)
  | none =>
    match s.prepared.wait with
    | some x => .next (s.prepared.pollKey x)
    | none => s.prepared.runInstruction

/-- Make the very next step fetch: no latch, no key wait, and a `pc` at which a word can be fetched (`PROG_BASE` where the
present one is not; notes/assumptions/7.md). At reset this changes nothing. -/
def State.readyToFetch (s : State) : State :=
  { s with fault := none, wait := none, pc := if s.pc.toNat + 1 < Config.memSize then s.pc else BitVec.ofNat 16 Config.progBase }

/-- Store a word at `pc`, high byte first (R91). -/
def State.placeWord (s : State) (w : Word) : State := s.withMem (s.mem.writeBytes s.pc.toNat (bytesOf w))

end Sys2Proof.Machine
end

