-- ==== Sys2Proof/Machine/Step.lean ====
section
/-! DEFINITION. The step (spec/40_step_cycle.md R120) and the placing of a program word at the next fetch. -/

namespace Sys2Proof.Machine

/-- One step of the machine. It always answers a next state: its `CycleOutcome` is the output `out.outcome` (R44). -/
def step (s : State) : Host.Outcome State Fault Refusal := s.cycle

/-- The state with an opcode-table word stored where the step fetches its next instruction. -/
def State.withFetchWord (s : State) (nbits w : Nat) : State := s.readyToFetch.placeWord (tableWord nbits w)

end Sys2Proof.Machine
end

