-- ==== Sys2Proof/Machine/Construct.lean ====
section
/-! DEFINITION. Construction, which is the reset and includes the program load (spec/70_reset_and_hazards.md R300 to R305). -/

namespace Sys2Proof.Machine

/-- Why a construction yields no machine (R287, R302). It is no outcome of a step. -/
inductive LoadError where
  /-- The image is longer than 3584 bytes (R302). -/
  | imageTooLarge
  deriving DecidableEq, Repr

/-- `construct(img, L)` with the `FONT` parameter (R300): everything as at reset, `FONT` at 0x000, the image, exactly its own
length, at 0x200 (R301). Nothing of an earlier machine is an argument (R305). -/
def construct (font : Vector Byte 80) (img : List Byte) : Except LoadError State :=
  if img.length ≤ Config.maxImage then
    .ok (State.reset.withMem ((Memory.writeBytes [] Config.fontBase font.toList).writeBytes Config.progBase img))
  else .error .imageTooLarge

end Sys2Proof.Machine
end

