-- ==== Sys2Proof/Machine/Ports.lean ====
section
/-! DEFINITION. The output ports that are functions of the state (spec/10_state.md R45 to R47), the encoding of the fault
latch (spec/10_state.md R34, spec/60_exceptions.md R271) and the range of the elapsed-time port (spec/10_state.md R40). -/

namespace Sys2Proof.Machine

/-- The rows from `y` on laid out at bit `64·y` of `fb_out`, the last row in the high bits. -/
def rowsWord : List (BitVec 64) → Nat
  | [] => 0
  | r :: rs => r.toNat + 2 ^ 64 * rowsWord rs

/-- `fb_out[2047:0]`: bit `64·y + x` is `fb[y][x]` (R45). -/
def State.fbOut (s : State) : BitVec 2048 := BitVec.ofNat 2048 (rowsWord s.fb.toList)

/-- `sound_timer[7:0]` (R46). -/
def State.soundTimer (s : State) : Byte := s.ST

/-- `sound_on = (ST ≠ 0)` (R46). -/
def State.soundOn (s : State) : Bool := s.ST != 0

/-- `wait_out` (R47). -/
def State.waitOut (s : State) : Option RegNum := s.wait

/-- The two bits of the fault latch: `none` 0, then the codes of R271 (R34). -/
def faultCode : Option Fault → BitVec 2
  | none => 0
  | some .stackOverflow => 1
  | some .stackUnderflow => 2
  | some .memoryBounds => 3

/-- The five bits of the wait sub-state: bit 4 valid, bits 3:0 the register number (R34). DESIGN CHOICE, unsafe: while `wait` is
`none` the spec says nothing of bits 3:0, and the model puts 0 there (notes/assumptions/16.md). -/
def waitCode : Option RegNum → BitVec 5
  | none => 0
  | some x => 0b10000 ||| BitVec.ofNat 5 x.val

/-- Whether an elapsed time can stand on a port of `bits` bits, the OPEN parameter `ELAPSED_BITS` (R7, R40). -/
def StepInput.fits (bits : Nat) (i : StepInput) : Bool := decide (i.elapsedMs < 2 ^ bits)

end Sys2Proof.Machine
end

