-- ==== Sys2Proof/Safety.lean ====
section
/-! DEFINITION. The terms claims are made in: the parts of the state and what "unchanged" means for each, the spec's own
tables of who writes what (spec/10_state.md R21 to R34), of the faults (spec/60_exceptions.md R271) and of how pc moves
(spec/40_step_cycle.md R127), and the invariant of the machine (spec/10_state.md R25, spec/45_keypad.md R235). The tables are
written from the spec, not from the meanings. -/

namespace Sys2Proof

open Machine

/-- The parts of the state other than the V registers and pc. -/
inductive Machine.Part where
  | index
  | callStack
  | delayTimer
  | soundTimer
  | accumulator
  | display
  | memory
  | waitState
  | latch
  | inputs
  | outputs
  deriving DecidableEq, Repr

/-- A part of the state is the same in two states. Memory is compared byte by byte, the display pixel by pixel. -/
def Machine.Part.Same (s t : State) : Part → Prop
  | .index => t.I = s.I
  | .callStack => t.stack = s.stack ∧ t.sp = s.sp
  | .delayTimer => t.DT = s.DT
  | .soundTimer => t.ST = s.ST
  | .accumulator => t.acc3 = s.acc3
  | .display => ∀ x y, t.fb.pixel x y = s.fb.pixel x y
  | .memory => ∀ a, t.mem.read a = s.mem.read a
  | .waitState => t.wait = s.wait
  | .latch => t.fault = s.fault
  | .inputs => t.inp = s.inp ∧ t.pending = s.pending ∧ t.draws = s.draws
  | .outputs => t.out = s.out

/-- The frame: every register but `regs` and every part but `parts` is the same in `t` as in `s`. It says nothing of pc. -/
def Machine.FrameBut (regs : List RegNum) (parts : List Part) (s t : State) : Prop :=
  (∀ k, k ∉ regs → t.readV k = s.readV k) ∧ ∀ p, p ∉ parts → Part.Same s t p

/-- The parts an instruction may write, by the "written by" entries of the spec: `I` (R23), the stack (R26), DT and ST
(R27), the framebuffer (R29), memory (R66), `wait` (R31), the latch of the raising instructions (R271) and the outputs of
those that report something (R44, R47). Nothing writes `acc3` or the inputs (R28, R37). -/
def Instr.touches : Instr → List Part
  | .halt => [.outputs]
  | .cls => [.display]
  | .ret | .call _ => [.callStack, .latch, .outputs]
  | .ldI _ | .addI _ | .ldFont _ => [.index]
  | .drw _ _ _ => [.display, .latch, .outputs]
  | .ldVxKey _ => [.waitState, .outputs]
  | .ldDtVx _ => [.delayTimer]
  | .ldStVx _ => [.soundTimer]
  | .ldBcd _ | .storeRegs _ => [.memory, .latch, .outputs]
  | .loadRegs _ => [.latch, .outputs]
  | .unk0 _ | .unk8 _ _ _ | .unkE _ _ | .unkF _ _ => [.outputs]
  | .jp _ | .seImm _ _ | .sneImm _ _ | .seReg _ _ _ | .ldImm _ _ | .addImm _ _ | .ldReg _ _ | .orReg _ _ | .andReg _ _
  | .xorReg _ _ | .addReg _ _ | .subReg _ _ | .shr _ _ | .subnReg _ _ | .shl _ _ | .sneReg _ _ _ | .jpV0 _ | .rnd _ _
  | .skp _ | .sknp _ | .ldVxDt _ => []

/-- The registers an instruction may write: its X field, VF for the six flag writers, V0 to VX for `FX65` (R21, R22). -/
def Instr.dests : Instr → List RegNum
  | .ldImm x _ | .addImm x _ | .ldReg x _ | .orReg x _ | .andReg x _ | .xorReg x _ | .rnd x _ | .ldVxDt x
  | .ldVxKey x => [x]
  | .addReg x _ | .subReg x _ | .shr x _ | .subnReg x _ | .shl x _ => [x, VF]
  | .drw _ _ _ => [VF]
  | .loadRegs x => (List.finRange 16).filter (· ≤ x)
  | .halt | .cls | .ret | .jp _ | .call _ | .seImm _ _ | .sneImm _ _ | .seReg _ _ _ | .sneReg _ _ _ | .ldI _ | .jpV0 _
  | .skp _ | .sknp _ | .ldDtVx _ | .ldStVx _ | .addI _ | .ldFont _ | .ldBcd _ | .storeRegs _ | .unk0 _ | .unk8 _ _ _
  | .unkE _ _ | .unkF _ _ => []

/-- The complete list of the faults an instruction raises, with their conditions (R271 to R274). -/
def Instr.raises (s : State) : Instr → Option Fault
  | .call _ => if s.sp.val = 16 then some .stackOverflow else none
  | .ret => if s.sp.val = 0 then some .stackUnderflow else none
  | .drw _ _ n => if 1 ≤ n.toNat ∧ s.I.toNat + n.toNat - 1 > 4095 then some .memoryBounds else none
  | .ldBcd _ => if s.I.toNat + 2 > 4095 then some .memoryBounds else none
  | .storeRegs x | .loadRegs x => if s.I.toNat + x.val > 4095 then some .memoryBounds else none
  | .halt | .cls | .jp _ | .seImm _ _ | .sneImm _ _ | .seReg _ _ _ | .ldImm _ _ | .addImm _ _ | .ldReg _ _ | .orReg _ _
  | .andReg _ _ | .xorReg _ _ | .addReg _ _ | .subReg _ _ | .shr _ _ | .subnReg _ _ | .shl _ _ | .sneReg _ _ _ | .ldI _
  | .jpV0 _ | .rnd _ _ | .skp _ | .sknp _ | .ldVxDt _ | .ldVxKey _ | .ldDtVx _ | .ldStVx _ | .addI _ | .ldFont _
  | .unk0 _ | .unk8 _ _ _ | .unkE _ _ | .unkF _ _ => none

/-- `pc + 4` if the condition holds, else `pc + 2`, modulo 65536. -/
def Machine.skipTarget (s : State) (c : Prop) [Decidable c] : Nat := (s.pc.toNat + if c then 4 else 2) % 65536

/-- Where pc goes under an instruction that does not raise (R127), as a number. The key of the two key skips is VX mod 16 by
decision D9 (R236), and `5XYn` and `9XYn` skip at every n by decision D18 (R101; notes/assumptions/8.md). -/
def Instr.pcAfter (s : State) : Instr → Nat
  | .halt => s.pc.toNat
  | .jp nnn | .call nnn => nnn.toNat
  | .ret => if h : 0 < s.sp.val then (s.stack[s.sp.val - 1]'(by have := s.sp.isLt; omega)).toNat else s.pc.toNat
  | .jpV0 nnn => (nnn.toNat + (s.readV 0).toNat) % 65536
  | .seImm x kk => skipTarget s (s.readV x = kk)
  | .sneImm x kk => skipTarget s (s.readV x ≠ kk)
  | .seReg x y _ => skipTarget s (s.readV x = s.readV y)
  | .sneReg x y _ => skipTarget s (s.readV x ≠ s.readV y)
  | .skp x => skipTarget s (s.inp.keys.getLsbD ((s.readV x).toNat % 16) = true)
  | .sknp x => skipTarget s (s.inp.keys.getLsbD ((s.readV x).toNat % 16) = false)
  | .ldVxKey _ => if s.inp.keyEvent = none then s.pc.toNat else (s.pc.toNat + 2) % 65536
  | .cls | .ldImm _ _ | .addImm _ _ | .ldReg _ _ | .orReg _ _ | .andReg _ _ | .xorReg _ _ | .addReg _ _ | .subReg _ _
  | .shr _ _ | .subnReg _ _ | .shl _ _ | .ldI _ | .rnd _ _ | .drw _ _ _ | .ldVxDt _ | .ldDtVx _ | .ldStVx _ | .addI _
  | .ldFont _ | .ldBcd _ | .storeRegs _ | .loadRegs _ | .unk0 _ | .unk8 _ _ _ | .unkE _ _ | .unkF _ _ =>
    (s.pc.toNat + 2) % 65536

/-- Two inputs are the same to an instruction: `in.rand` counts for `CXKK` only (R43), `in.keys` for `EX9E` and `EXA1`
only (R41), `in.key_event` for `FX0A` only (R42). -/
def Instr.SameInputs (i j : StepInput) : Instr → Prop
  | .rnd _ _ => i.rand = j.rand
  | .skp _ | .sknp _ => i.keys = j.keys
  | .ldVxKey _ => i.keyEvent = j.keyEvent
  | .halt | .cls | .ret | .jp _ | .call _ | .seImm _ _ | .sneImm _ _ | .seReg _ _ _ | .ldImm _ _ | .addImm _ _
  | .ldReg _ _ | .orReg _ _ | .andReg _ _ | .xorReg _ _ | .addReg _ _ | .subReg _ _ | .shr _ _ | .subnReg _ _
  | .shl _ _ | .sneReg _ _ _ | .ldI _ | .jpV0 _ | .drw _ _ _ | .ldVxDt _ | .ldDtVx _ | .ldStVx _ | .addI _ | .ldFont _
  | .ldBcd _ | .storeRegs _ | .loadRegs _ | .unk0 _ | .unk8 _ _ _ | .unkE _ _ | .unkF _ _ => True

/-- The opcode at an address as a number, big-endian (R62). -/
def Machine.State.wordAt (s : State) (a : Nat) : Nat := 256 * (s.mem.read a).toNat + (s.mem.read (a + 1)).toNat

/-- The elapsed time of the coming step: the oldest scripted one, or a free value (R40). -/
def Machine.State.elapsedNext (s : State) : Nat :=
  match s.pending with
  | i :: _ => i.elapsedMs
  | [] => Config.freeElapsedMs s.draws

/-- The ticks earned by an elapsed time (R252: `t div 50`). -/
def Machine.State.ticks (s : State) (e : Nat) : Nat := (s.acc3.val + 3 * e) / 50

/-- The pixel a sprite lights, set or not: some row `r < n` and column `c < 8` of the sprite at `I` whose bit is 1, most
significant bit first, lands there, both coordinates wrapping (R213, R214). -/
def Machine.SpriteLights (s : State) (x y : RegNum) (n : Nat) (px : Fin 64) (py : Fin 32) : Prop :=
  ∃ r c, r < n ∧ c < 8 ∧ px.val = ((s.readV x).toNat + c) % 64 ∧ py.val = ((s.readV y).toNat + r) % 32 ∧
    (s.mem.read (s.I.toNat + r)).getLsbD (7 - c) = true

/-- The invariant of the machine. The bounds of `sp` (R39) and `acc3` (R28) are in the types of those fields. -/
structure Machine.State.Inv (s : State) : Prop where
  /-- Memory keeps its canonical form. -/
  memForm : s.mem.wf = true
  /-- `pc ≤ 0x10FE`, so that pc arithmetic never wraps (R25). -/
  pcBound : s.pc.toNat ≤ 0x10FE
  /-- Every stack slot holds at most 0x1000 (R25). -/
  slotBound : ∀ k : Fin 16, s.stack[k].toNat ≤ 0x1000
  /-- A waiting machine is not latched and stands on the `FX0A` it waits for (R130, R235 i). -/
  waiting : ∀ x, s.wait = some x → s.fault = none ∧ s.fetch.map decodeWord = some (.ldVxKey x)

end Sys2Proof
end

