-- ==== Sys2Proof/Certificates/Slice0/Obligations.lean ====
section
/-! DEFINITION. The statements for the provers. Arithmetic is said on natural numbers (spec/00_scope.md R11), results are
equalities of what `exec` answers, and each frame says what stays. `pc + 2` and `pc + 4` are said modulo 65536, as R127 and
R24 have them (decision D16, notes/assumptions/8.md); by R25 no run reaches the wrap. -/

open Sys2Proof Sys2Proof.Machine

/-! ### Encoding -/

/-- Words written out from the patterns of R96 decode to the instructions they stand for, one or more of each of the sixteen
families. Choices among them: 0x00E0 as CLS is log entry 6 (decision D20, the parameter U3); 0x5127 and 0x912F as skips are
decision D18, and 0x01EE, 0x812F and 0xF130 as unknown are decision D19 (log entry 8); that the ignored nibble of 0x5127 and
0x912F is kept is log entry 15. -/
def Obligations.SpecWordsDecode : Prop :=
  decodeTableWord 16 0x0000 = some .halt ∧ decodeTableWord 16 0x00E0 = some .cls ∧
  decodeTableWord 16 0x00EE = some .ret ∧ decodeTableWord 16 0x01EE = some (.unk0 0x1EE) ∧
  decodeTableWord 16 0x1ABC = some (.jp 0xABC) ∧ decodeTableWord 16 0x2345 = some (.call 0x345) ∧
  decodeTableWord 16 0x3142 = some (.seImm 1 0x42) ∧ decodeTableWord 16 0x4F80 = some (.sneImm 15 0x80) ∧
  decodeTableWord 16 0x5127 = some (.seReg 1 2 7) ∧ decodeTableWord 16 0x63AB = some (.ldImm 3 0xAB) ∧
  decodeTableWord 16 0x7301 = some (.addImm 3 0x01) ∧
  decodeTableWord 16 0x8AB4 = some (.addReg 10 11) ∧ decodeTableWord 16 0x812F = some (.unk8 1 2 0xF) ∧
  decodeTableWord 16 0x912F = some (.sneReg 1 2 0xF) ∧ decodeTableWord 16 0xA2F0 = some (.ldI 0x2F0) ∧
  decodeTableWord 16 0xBFFF = some (.jpV0 0xFFF) ∧ decodeTableWord 16 0xC40F = some (.rnd 4 0x0F) ∧
  decodeTableWord 16 0xD12F = some (.drw 1 2 0xF) ∧
  decodeTableWord 16 0xE59E = some (.skp 5) ∧ decodeTableWord 16 0xF265 = some (.loadRegs 2) ∧
  decodeTableWord 16 0xF130 = some (.unkF 1 0x30)

/-- R92: the fields of a word, as numbers. -/
def Obligations.FieldsAreTheNibblesOfTheWord : Prop :=
  ∀ w : Word, (opField w).toNat = w.toNat / 4096 ∧ (xField w).val = w.toNat / 256 % 16 ∧
    (yField w).val = w.toNat / 16 % 16 ∧ (nField w).toNat = w.toNat % 16 ∧
    (kkField w).toNat = w.toNat % 256 ∧ (nnnField w).toNat = w.toNat % 4096

/-- Decoding the bytes of an encoded well-formed instruction gives it back, with the bytes after it. Choices: that an
instruction has its ignored bits as fields is log entry 15; which unknown terms are well-formed rests on decisions D18 and
D19 (log entry 8) and on 0x00E0 as CLS (decision D20, log entry 6). -/
def Obligations.DecodeOfEncodeIsIdentity : Prop :=
  ∀ (i : Instr) (rest : List Byte), i.wf = true → decode (bytesOf (encode i) ++ rest) = .ok (i, rest)

/-- Every one of the 65536 words decodes to one well-formed instruction (R95, R103), whose encoding is that word. Choices:
the second clause rests on keeping the bits the hardware ignores (log entry 15), where the canonical spelling of R101 and
R108 has them 0; which words are unknown rests on decisions D18 and D19 (log entry 8) and D20 (log entry 6). -/
def Obligations.EncodeOfDecodeIsIdentity : Prop :=
  ∀ w : Word, (decodeWord w).wf = true ∧ encode (decodeWord w) = w

/-- The ordered opcode table, first match wins, names the row the decoder chooses, for every word (R109; the table rests on
decisions D18 and D19, log entry 8, and on 0x00E0 as CLS, decision D20, log entry 6). -/
def Obligations.DecodeFollowsTheOrderedTable : Prop :=
  ∀ w : Word, tablePattern w = some (decodeWord w).pattern

/-- The words that decode to an unknown code, by arithmetic on the word (R97 to R100, R104). Choices: that 0x00E0 is not
among them is log entry 6 (decision D20, the parameter U3); that family 0 is decoded on 12 bits, family 8 on the low nibble
and families E and F on the low byte is decision D19, and that families 5 and 9 have no unknown words D18 (log entry 8). -/
def Obligations.UnknownWordsAreExactlyThese : Prop :=
  ∀ w : Word, (decodeWord w).isUnknown = true ↔
    (w.toNat / 4096 = 0x0 ∧ w.toNat % 4096 ≠ 0x000 ∧ w.toNat % 4096 ≠ 0x0E0 ∧ w.toNat % 4096 ≠ 0x0EE) ∨
    (w.toNat / 4096 = 0x8 ∧ (8 ≤ w.toNat % 16 ∧ w.toNat % 16 ≠ 0xE)) ∨
    (w.toNat / 4096 = 0xE ∧ w.toNat % 256 ≠ 0x9E ∧ w.toNat % 256 ≠ 0xA1) ∨
    (w.toNat / 4096 = 0xF ∧ w.toNat % 256 ∉ [0x07, 0x0A, 0x15, 0x18, 0x1E, 0x29, 0x33, 0x55, 0x65])

/-! ### Reset and construction -/

/-- Reset is construction with the default font and an empty image (log entry 7; an empty image is accepted by decision
D32), and leaves the values of R38. That `acc3`, `wait` and `fault` start at 0, `none` and `none` are the spec's decisions
D5, D8 and D1, and that 0x050 to 0x1FF is zero is D22 (log entry 8); the font bytes are its default `FONT` (D25, log entry
5). The ports' reset values (log entry 3) are not claimed. -/
def Obligations.ResetLeavesTheseValues : Prop :=
  construct defaultFont [] = .ok State.reset ∧
  (∀ k, State.reset.readV k = 0) ∧ State.reset.I = 0 ∧ State.reset.pc.toNat = 0x200 ∧ State.reset.sp.val = 0 ∧
  (∀ k : Fin 16, State.reset.stack[k] = 0) ∧ State.reset.DT = 0 ∧ State.reset.ST = 0 ∧ State.reset.acc3.val = 0 ∧
  (∀ x y, State.reset.fb.pixel x y = false) ∧ (∀ a : Fin 80, State.reset.mem.read a.val = defaultFont[a]) ∧
  (∀ a, 80 ≤ a → State.reset.mem.read a = 0) ∧ State.reset.wait = none ∧ State.reset.fault = none

/-- Construction with an accepted image: the font at 0x000, the image at 0x200, zeros elsewhere, and every other piece of
state zeroed, pc at 0x200, no wait, no fault (R300, R301). Choices of log entry 8: the empty image and odd lengths are
accepted and exactly L bytes copied by decision D32; `acc3`, `wait` and `fault` start so by D5, D8 and D1; 0x050 to 0x1FF is
zero by D22; `FONT` is a parameter by D25. -/
def Obligations.ConstructionPlacesFontAndImage : Prop :=
  ∀ (font : Vector Byte 80) (img : List Byte), img.length ≤ 3584 →
    ∃ t, construct font img = .ok t ∧
      (∀ a : Fin 80, t.mem.read a.val = font[a]) ∧
      (∀ i (h : i < img.length), t.mem.read (0x200 + i) = img[i]) ∧
      (∀ a, 80 ≤ a → a < 0x200 ∨ 0x200 + img.length ≤ a → t.mem.read a = 0) ∧
      (∀ k, t.readV k = 0) ∧ t.I = 0 ∧ t.pc.toNat = 0x200 ∧ t.sp.val = 0 ∧ (∀ k : Fin 16, t.stack[k] = 0) ∧
      t.DT = 0 ∧ t.ST = 0 ∧ t.acc3.val = 0 ∧ (∀ x y, t.fb.pixel x y = false) ∧ t.wait = none ∧ t.fault = none

/-- An image longer than 3584 bytes is rejected and yields no machine, and one of exactly 3584 bytes occupies 0x200 to 0xFFF
(R302); every image of at most 3584 bytes is accepted (R300, R301; the empty one and odd lengths by decision D32, log entry 8). -/
def Obligations.OversizedImageIsRejected : Prop :=
  ∀ (font : Vector Byte 80) (img : List Byte),
    (3584 < img.length → construct font img = .error .imageTooLarge) ∧
    (img.length ≤ 3584 → ∃ t, construct font img = .ok t ∧
      (img.length = 3584 → ∀ i (h : i < img.length), t.mem.read (0x200 + i) = img[i] ∧ 0x200 + i ≤ 0xFFF))

/-! ### The step -/

/-- The invariant holds right after reset. Its first clause, memory's canonical form, is the model's own (log entry 9); its
bounds are those R25 derives with decisions D16 and D17, and no wait at reset is decision D8 (log entry 8). -/
def Obligations.InvariantHoldsAtReset : Prop := State.reset.Inv

/-- The invariant holds after construction with any font and any accepted image, so it holds at every start of a run.
Memory's canonical form is the model's own (log entry 9); the bounds are those R25 derives with decisions D16 and D17, no
wait is decision D8, and which images are accepted D32 (log entry 8). -/
def Obligations.InvariantHoldsAfterConstruction : Prop :=
  ∀ font img t, construct font img = .ok t → t.Inv

/-- Every step keeps the invariant: memory's form, `pc ≤ 0x10FE` and slots at most 0x1000 (R25), and a waiting machine
stands unlatched on its `FX0A` (R235 i). Choices: memory's form is the model's own (log entry 9); the bounds rest on
decisions D16 and D17, the waiting clause on D8 and D1, a pc kept by a raise is D3 and the order of the phases D33 (log
entry 8). -/
def Obligations.StepKeepsTheInvariant : Prop :=
  ∀ s t : State, s.Inv → step s = .next t → t.Inv

/-- Every step, from any state, answers a next state: nothing is refused and nothing ends the machine (log entry 1; that a
step can be made after a fault and after a halt is decisions D1 and D28, log entry 8). -/
def Obligations.EveryStepAnswersANextState : Prop := ∀ s, ∃ t, step s = .next t

/-- A latched step returns the same fault, both strobes 0, and changes nothing, the timers included (R121; decisions D1 and
D33, log entry 8). That it also uses up no scripted input and no draw is the model's choice (log entry 11). -/
def Obligations.LatchedStepChangesNothing : Prop :=
  ∀ s r, s.fault = some r → ∃ t, step s = .next t ∧ t.out = ⟨.faulted r, false, false⟩ ∧ t.pc = s.pc ∧
    FrameBut [] [.outputs] s t

/-- A step that is neither latched nor waiting runs the instruction its two bytes decode to, in the state whose inputs have
been sampled and whose timers have been advanced; nothing is done after it (R120, R126). Choices: the order of the phases is
decision D33 and a fetch at an odd pc D16 (log entry 8); where the sampled inputs come from is log entry 2. -/
def Obligations.StepRunsTheDecodedInstruction : Prop :=
  ∀ (s : State) (i : Instr), s.fault = none → s.wait = none → s.pc.toNat ≤ 4094 →
    decode [s.mem.read s.pc.toNat, s.mem.read (s.pc.toNat + 1)] = .ok (i, []) →
    step s = exec i s.prepared

/-- What the phases before the fetch do, scripted or not (R49, R122): the outputs are cleared, the timers advanced by the
elapsed time sampled; all else, pc included, stays. Choices: where the inputs come from is log entry 2 (the oldest scripted
ones, which are used up, or, where none is scripted, the free values at `draws`, which counts on); quantum and unit are
decision D5, inputs as ports D7, timers before the fetch D33 (log entry 8); elapsed times have no bound (log entry 4). -/
def Obligations.PreparationSamplesAndAdvancesTimers : Prop :=
  ∀ s : State,
    (∀ i rest, s.pending = i :: rest →
      s.prepared.inp = i ∧ s.prepared.pending = rest ∧ s.prepared.draws = s.draws) ∧
    (s.pending = [] →
      s.prepared.inp = ⟨Config.freeElapsedMs s.draws, Config.freeKeys s.draws, Config.freeKeyEvent s.draws,
        Config.freeRand s.draws⟩ ∧
      s.prepared.pending = [] ∧ s.prepared.draws = s.draws + 1) ∧
    s.prepared.out = ⟨.continued, false, false⟩ ∧ s.prepared.pc = s.pc ∧
    s.prepared.DT.toNat = s.DT.toNat - (s.acc3.val + 3 * s.prepared.inp.elapsedMs) / 50 ∧
    s.prepared.ST.toNat = s.ST.toNat - (s.acc3.val + 3 * s.prepared.inp.elapsedMs) / 50 ∧
    s.prepared.acc3.val = (s.acc3.val + 3 * s.prepared.inp.elapsedMs) % 50 ∧
    FrameBut [] [.delayTimer, .soundTimer, .accumulator, .inputs, .outputs] s s.prepared

/-- The opcode-table word placed by `withFetchWord` is the one the very next step runs, from any state; in a state that is
ready to fetch nothing but the two bytes at pc is changed (log entry 7; a fetch at an odd pc is decision D16, the order of
the phases D33, log entry 8). -/
def Obligations.PlacedWordRunsNext : Prop :=
  ∀ (s : State) (nbits w : Nat) (i : Instr), s.mem.wf = true → decodeTableWord nbits w = some i →
    step (s.withFetchWord nbits w) = exec i (s.withFetchWord nbits w).prepared ∧
    (s.fault = none → s.wait = none → s.pc.toNat ≤ 4094 →
      (s.withFetchWord nbits w).pc = s.pc ∧ FrameBut [] [.memory] s (s.withFetchWord nbits w) ∧
      ∀ a, a ≠ s.pc.toNat → a ≠ s.pc.toNat + 1 → (s.withFetchWord nbits w).mem.read a = s.mem.read a)

/-- At any pc up to 4094, even or odd, the opcode is the big-endian word at pc; above 4094 the fetch raises `MemoryBounds`.
Either way the fetch changes nothing else (R124). Choices of log entry 8: an odd pc and no wrap of pc + 1 are decision D16,
the reason D2, the latch D1, the timer advance kept and pc left by a raise D3, the order of the phases D33. -/
def Obligations.FetchReadsBigEndianOrFaults : Prop :=
  ∀ s : State, s.fault = none → s.wait = none →
    (s.pc.toNat ≤ 4094 → step s = exec (decodeWord (BitVec.ofNat 16 (s.wordAt s.pc.toNat))) s.prepared) ∧
    (4094 < s.pc.toNat → ∃ t, step s = .next t ∧ t.fault = some .memoryBounds ∧
      t.out = ⟨.faulted .memoryBounds, false, false⟩ ∧ t.pc = s.pc ∧ FrameBut [] [.latch, .outputs] s.prepared t)

/-- A step that begins waiting polls the event it samples, scripted or not, without fetching: with no event it stays; with
an event it writes the key number, leaves the sub-state and moves pc on by 2. The timers advance either way (R123, R234,
R235; decisions D8 and D33, the strobe `key_poll` D7, log entry 8; where the event comes from is log entry 2). -/
def Obligations.WaitingStepPollsForAKey : Prop :=
  ∀ (s : State) (x : RegNum), s.fault = none → s.wait = some x →
    (s.prepared.inp.keyEvent = none → ∃ t, step s = .next t ∧ t.pc = s.pc ∧ t.wait = some x ∧
      t.out = ⟨.continued, true, false⟩ ∧ FrameBut [] [.outputs] s.prepared t) ∧
    (∀ k, s.prepared.inp.keyEvent = some k → ∃ t, step s = .next t ∧ (t.readV x).toNat = k.val ∧ t.wait = none ∧
      t.pc.toNat = (s.pc.toNat + 2) % 65536 ∧ t.out = ⟨.continued, true, false⟩ ∧
      FrameBut [x] [.waitState, .outputs] s.prepared t)

/-- After every step the outcome port says `Fault(r)` exactly when the latch holds `r` (R33, R44, R130; the latch is
decision D1, log entry 8; the outcome as a stored port is log entries 1 and 10). -/
def Obligations.FaultOutcomeMeansLatched : Prop :=
  ∀ s t, step s = .next t → ∀ r, t.out.outcome = .faulted r ↔ t.fault = some r

/-- A step ends `Halted` exactly when it is neither latched nor waiting and fetches a zero word (R102, R125, R277). Choices
of log entry 8: that a latched step does not is decision D1, that a waiting one does not D8, the order of those tests before
the fetch D33, and that the word at an odd pc counts D16. -/
def Obligations.HaltedExactlyOnAZeroWord : Prop :=
  ∀ s t, step s = .next t → (t.out.outcome = .halted ↔
    s.fault = none ∧ s.wait = none ∧ s.pc.toNat ≤ 4094 ∧ s.wordAt s.pc.toNat = 0)

/-- In every step that is not latched, `acc3` and the input fields end as the phases before the fetch leave them, and so do
DT and ST unless the step runs `FX15` or `FX18` (R49, R122, R252, R254). Choices: the quantum is decision D5, that the
timers advance in waiting, halting and faulting steps too D33, D8 and D3 (log entry 8); that `FX15` is what sets DT and
`FX18` what sets ST is general knowledge G7 (log entry 12); the input fields are the model's own (log entry 2). -/
def Obligations.EveryUnlatchedStepAdvancesTheTimers : Prop :=
  ∀ s t, step s = .next t → s.fault = none →
    t.acc3.val = (s.acc3.val + 3 * s.elapsedNext) % 50 ∧
    (t.inp = s.prepared.inp ∧ t.pending = s.prepared.pending ∧ t.draws = s.prepared.draws) ∧
    (t.DT.toNat = s.DT.toNat - s.ticks s.elapsedNext ∨
      ∃ x, s.fetch.map decodeWord = some (.ldDtVx x) ∧ s.wait = none ∧ t.DT = s.readV x) ∧
    (t.ST.toNat = s.ST.toNat - s.ticks s.elapsedNext ∨
      ∃ x, s.fetch.map decodeWord = some (.ldStVx x) ∧ s.wait = none ∧ t.ST = s.readV x)

/-! ### The timer accumulator -/

/-- Paying out two elapsed times one after the other is paying out their sum (R253; decision D5, log entry 8; elapsed times
have no bound, log entry 4). -/
def Obligations.TimerAdvanceIsAdditive : Prop :=
  ∀ (s : State) (a b : Nat), (s.advanceTimers a).advanceTimers b = s.advanceTimers (a + b)

/-- Elapsed times that sum to 1000 ms, however split, give exactly sixty ticks: whatever DT and ST hold, each is lowered by
60 and never below 0, and the accumulator is as it was (R252, R253, R254 and the source's property S8; decision D5, log
entry 8). -/
def Obligations.SixtyTicksInAThousandMs : Prop :=
  ∀ (s : State) (es : List Nat), es.sum = 1000 →
    (es.foldl State.advanceTimers s).DT.toNat = s.DT.toNat - 60 ∧
    (es.foldl State.advanceTimers s).ST.toNat = s.ST.toNat - 60 ∧
    (es.foldl State.advanceTimers s).acc3 = s.acc3

/-! ### The sentinel and the unknown codes -/

/-- `0000` changes nothing but the outcome, and a step on the zero word left under pc halts again (R125; the second step is
decision D28, log entry 8). -/
def Obligations.HaltStaysInPlace : Prop :=
  (∀ s, ∃ t, exec .halt s = .next t ∧ t.out = ⟨.halted, s.out.keyPoll, s.out.unknownOp⟩ ∧ t.pc = s.pc ∧
    FrameBut [] [.outputs] s t) ∧
  (∀ s t, step s = .next t → t.out.outcome = .halted → ∃ u, step t = .next u ∧ u.out.outcome = .halted ∧ u.pc = s.pc)

/-- The four unknown rows at every value of their fields: pc moves on, `unknown_op` is raised, nothing else (R128; the
strobe is decision D24, log entry 8). -/
def Obligations.UnknownCodesAreNoOps : Prop :=
  ∀ (i : Instr) (s : State), i.isUnknown = true → ∃ t, exec i s = .next t ∧
    t.pc.toNat = (s.pc.toNat + 2) % 65536 ∧ t.out = ⟨s.out.outcome, s.out.keyPoll, true⟩ ∧ FrameBut [] [.outputs] s t

/-! ### Control flow -/

/-- R141: `1NNN` sets pc to NNN and changes nothing else. -/
def Obligations.JumpGoesToNNN : Prop :=
  ∀ (nnn : Imm12) (s : State), ∃ t, exec (.jp nnn) s = .next t ∧ t.pc.toNat = nnn.toNat ∧ FrameBut [] [] s t

/-- `BNNN` sets pc to NNN + V0, not masked to 12 bits (R148; decision D16, log entry 8). -/
def Obligations.JumpWithOffsetAddsV0 : Prop :=
  ∀ (nnn : Imm12) (s : State), ∃ t, exec (.jpV0 nnn) s = .next t ∧
    t.pc.toNat = nnn.toNat + (s.readV 0).toNat ∧ FrameBut [] [] s t

/-- `2NNN` with fewer than 16 addresses held pushes pc + 2 and jumps; the other slots stay (R142; decision D17, log entry
8). -/
def Obligations.CallPushesTheReturnAddress : Prop :=
  ∀ (nnn : Imm12) (s : State), s.sp.val < 16 → ∃ t, exec (.call nnn) s = .next t ∧
    t.pc.toNat = nnn.toNat ∧ t.sp.val = s.sp.val + 1 ∧
    (∀ k : Fin 16, t.stack[k].toNat = if k.val = s.sp.val then (s.pc.toNat + 2) % 65536 else s.stack[k].toNat) ∧
    FrameBut [] [.callStack] s t

/-- `2NNN` with 16 addresses held raises `StackOverflow`; nothing is pushed and sp, the stack, pc and the two strobes stay
(R272; the latch is decision D1, nothing else changed D3, log entry 8). -/
def Obligations.SeventeenthCallOverflows : Prop :=
  ∀ (nnn : Imm12) (s : State), s.sp.val = 16 → ∃ t, exec (.call nnn) s = .next t ∧ t.fault = some .stackOverflow ∧
    t.out = ⟨.faulted .stackOverflow, s.out.keyPoll, s.out.unknownOp⟩ ∧ t.pc = s.pc ∧ FrameBut [] [.latch, .outputs] s t

/-- `00EE` with an address held pops it into pc, the slots staying as they are; with none held it raises `StackUnderflow`
and sp, pc and the two strobes stay (R143, R273; no further advance and the kept slot are decision D17, the latch D1,
nothing else changed D3, log entry 8). -/
def Obligations.ReturnPopsIntoPc : Prop :=
  ∀ s : State,
    (∀ k : Fin 16, s.sp.val = k.val + 1 → ∃ t, exec .ret s = .next t ∧ t.pc = s.stack[k] ∧ t.sp.val = k.val ∧
      t.stack = s.stack ∧ FrameBut [] [.callStack] s t) ∧
    (s.sp.val = 0 → ∃ t, exec .ret s = .next t ∧ t.fault = some .stackUnderflow ∧
      t.out = ⟨.faulted .stackUnderflow, s.out.keyPoll, s.out.unknownOp⟩ ∧ t.pc = s.pc ∧ FrameBut [] [.latch, .outputs] s t)

/-- A return undoes a call: it goes to the instruction after the call, with the same addresses held (R142, R143, R149; the
pushed pc + 2 and the return without a further advance are decision D17, log entry 8). -/
def Obligations.ReturnUndoesCall : Prop :=
  ∀ (nnn : Imm12) (s : State), s.sp.val < 16 → ∃ t u, exec (.call nnn) s = .next t ∧ exec .ret t = .next u ∧
    u.pc.toNat = (s.pc.toNat + 2) % 65536 ∧ u.sp = s.sp ∧
    (∀ k : Fin 16, k.val ≠ s.sp.val → u.stack[k] = s.stack[k]) ∧ FrameBut [] [.callStack] s u

/-- The four skips of VX against KK or VY; the low nibble of `5XYn` and `9XYn` does not count (R144 to R147; the polarity is
the spec's general knowledge G5, log entry 12, the ignored nibble its decision D18, log entry 8). -/
def Obligations.SkipsCompareRegisters : Prop :=
  ∀ (x y : RegNum) (kk : Byte) (n : Nibble) (s : State),
    (∃ t, exec (.seImm x kk) s = .next t ∧ FrameBut [] [] s t ∧
      t.pc.toNat = (s.pc.toNat + if (s.readV x).toNat = kk.toNat then 4 else 2) % 65536) ∧
    (∃ t, exec (.sneImm x kk) s = .next t ∧ FrameBut [] [] s t ∧
      t.pc.toNat = (s.pc.toNat + if (s.readV x).toNat = kk.toNat then 2 else 4) % 65536) ∧
    (∃ t, exec (.seReg x y n) s = .next t ∧ FrameBut [] [] s t ∧
      t.pc.toNat = (s.pc.toNat + if (s.readV x).toNat = (s.readV y).toNat then 4 else 2) % 65536) ∧
    (∃ t, exec (.sneReg x y n) s = .next t ∧ FrameBut [] [] s t ∧
      t.pc.toNat = (s.pc.toNat + if (s.readV x).toNat = (s.readV y).toNat then 2 else 4) % 65536)

/-! ### Registers -/

/-- R161, R162: `6XKK` loads KK into VX, and `7XKK` adds KK to VX modulo 256; VF is not changed unless it is VX. -/
def Obligations.ImmediatesLoadAndAddWithoutFlag : Prop :=
  ∀ (x : RegNum) (kk : Byte) (s : State),
    (∃ t, exec (.ldImm x kk) s = .next t ∧ t.readV x = kk ∧
      t.pc.toNat = (s.pc.toNat + 2) % 65536 ∧ FrameBut [x] [] s t) ∧
    (∃ t, exec (.addImm x kk) s = .next t ∧ (t.readV x).toNat = ((s.readV x).toNat + kk.toNat) % 256 ∧
      t.pc.toNat = (s.pc.toNat + 2) % 65536 ∧ FrameBut [x] [] s t)

/-- `8XY0` to `8XY3` copy, OR, AND, XOR bit by bit; VF is not changed unless it is VX (R163 to R166, R174; the order of the
four codes is reading G10, log entry 12, VF unchanged is decision D12, log entry 8). -/
def Obligations.CopyAndLogicLeaveVfAlone : Prop :=
  ∀ (x y : RegNum) (s : State),
    (∃ t, exec (.ldReg x y) s = .next t ∧ t.readV x = s.readV y ∧
      t.pc.toNat = (s.pc.toNat + 2) % 65536 ∧ FrameBut [x] [] s t) ∧
    (∃ t, exec (.orReg x y) s = .next t ∧
      (∀ j, (t.readV x).getLsbD j = ((s.readV x).getLsbD j || (s.readV y).getLsbD j)) ∧
      t.pc.toNat = (s.pc.toNat + 2) % 65536 ∧ FrameBut [x] [] s t) ∧
    (∃ t, exec (.andReg x y) s = .next t ∧
      (∀ j, (t.readV x).getLsbD j = ((s.readV x).getLsbD j && (s.readV y).getLsbD j)) ∧
      t.pc.toNat = (s.pc.toNat + 2) % 65536 ∧ FrameBut [x] [] s t) ∧
    (∃ t, exec (.xorReg x y) s = .next t ∧
      (∀ j, (t.readV x).getLsbD j = ((s.readV x).getLsbD j ^^ (s.readV y).getLsbD j)) ∧
      t.pc.toNat = (s.pc.toNat + 2) % 65536 ∧ FrameBut [x] [] s t)

/-- `8XY4` sets VF to 1 exactly when the sum exceeds 255 and VX to the sum modulo 256 (R167); with X = 15 VF ends as the carry,
by decision D11 (R160, U6, log entry 8). -/
def Obligations.AddSetsCarry : Prop :=
  ∀ (x y : RegNum) (s : State), ∃ t, exec (.addReg x y) s = .next t ∧
    (t.readV VF).toNat = (if (s.readV x).toNat + (s.readV y).toNat > 255 then 1 else 0) ∧
    (x ≠ VF → (t.readV x).toNat = ((s.readV x).toNat + (s.readV y).toNat) % 256) ∧
    t.pc.toNat = (s.pc.toNat + 2) % 65536 ∧ FrameBut [x, VF] [] s t

/-- `8XY5` sets VF to 1 exactly when VX > VY, strictly, and VX to VX − VY modulo 256 (R168); with X = 15 VF ends as the flag, by
decision D11 (R160, U6, log entry 8). -/
def Obligations.SubtractSetsStrictFlag : Prop :=
  ∀ (x y : RegNum) (s : State), ∃ t, exec (.subReg x y) s = .next t ∧
    (t.readV VF).toNat = (if (s.readV x).toNat > (s.readV y).toNat then 1 else 0) ∧
    (x ≠ VF → (t.readV x).toNat = (256 + (s.readV x).toNat - (s.readV y).toNat) % 256) ∧
    t.pc.toNat = (s.pc.toNat + 2) % 65536 ∧ FrameBut [x, VF] [] s t

/-- `8XY7` is the reverse subtraction, VF 1 exactly when VY > VX (R170; the strict flag is decision D13, log entry 8, the
operand order reading G10, log entry 12; with X = 15 VF ends as the flag, by decision D11). -/
def Obligations.ReverseSubtractSetsStrictFlag : Prop :=
  ∀ (x y : RegNum) (s : State), ∃ t, exec (.subnReg x y) s = .next t ∧
    (t.readV VF).toNat = (if (s.readV y).toNat > (s.readV x).toNat then 1 else 0) ∧
    (x ≠ VF → (t.readV x).toNat = (256 + (s.readV y).toNat - (s.readV x).toNat) % 256) ∧
    t.pc.toNat = (s.pc.toNat + 2) % 65536 ∧ FrameBut [x, VF] [] s t

/-- `8XY6` halves VX and puts its old bit 0 in VF, whatever Y is (R169); with X = 15 VF ends as the flag, by decision D11 (R160,
U6, log entry 8). -/
def Obligations.ShiftRightHalves : Prop :=
  ∀ (x y : RegNum) (s : State), ∃ t, exec (.shr x y) s = .next t ∧
    (t.readV VF).toNat = (s.readV x).toNat % 2 ∧ (x ≠ VF → (t.readV x).toNat = (s.readV x).toNat / 2) ∧
    t.pc.toNat = (s.pc.toNat + 2) % 65536 ∧ FrameBut [x, VF] [] s t

/-- `8XYE` doubles VX modulo 256 and puts its old bit 7 in VF as 0 or 1, whatever Y is (R171); with X = 15 VF ends as the flag,
by decision D11 (R160, U6, log entry 8). -/
def Obligations.ShiftLeftDoubles : Prop :=
  ∀ (x y : RegNum) (s : State), ∃ t, exec (.shl x y) s = .next t ∧
    (t.readV VF).toNat = (s.readV x).toNat / 128 ∧ (x ≠ VF → (t.readV x).toNat = 2 * (s.readV x).toNat % 256) ∧
    t.pc.toNat = (s.pc.toNat + 2) % 65536 ∧ FrameBut [x, VF] [] s t

/-- `CXKK` puts the step's random byte AND KK in VX; so no bit that KK lacks (R172; the byte is an input by decision D6, log
entry 8, any value). -/
def Obligations.RandomIsMaskedByKK : Prop :=
  ∀ (x : RegNum) (kk : Byte) (s : State), ∃ t, exec (.rnd x kk) s = .next t ∧
    (∀ j, (t.readV x).getLsbD j = (s.inp.rand.getLsbD j && kk.getLsbD j)) ∧
    t.pc.toNat = (s.pc.toNat + 2) % 65536 ∧ FrameBut [x] [] s t

/-! ### Index register and memory -/

/-- `ANNN` sets I to NNN; `FX1E` adds VX to I modulo 65536, unmasked and without a flag; `FX29` sets I to 5 times the low
nibble of VX (R191, R192, R193; the full width of I is decision D14, no flag D12, the low nibble D10, log entry 8). -/
def Obligations.IndexLoadsAndAdds : Prop :=
  ∀ (nnn : Imm12) (x : RegNum) (s : State),
    (∃ t, exec (.ldI nnn) s = .next t ∧ t.I.toNat = nnn.toNat ∧
      t.pc.toNat = (s.pc.toNat + 2) % 65536 ∧ FrameBut [] [.index] s t) ∧
    (∃ t, exec (.addI x) s = .next t ∧ t.I.toNat = (s.I.toNat + (s.readV x).toNat) % 65536 ∧
      t.pc.toNat = (s.pc.toNat + 2) % 65536 ∧ FrameBut [] [.index] s t) ∧
    (∃ t, exec (.ldFont x) s = .next t ∧ t.I.toNat = 5 * ((s.readV x).toNat % 16) ∧
      t.pc.toNat = (s.pc.toNat + 2) % 65536 ∧ FrameBut [] [.index] s t)

/-- `FX33` stores hundreds, tens and units of VX at I, I + 1, I + 2 and no other byte, I unchanged; with I above 4093 it
raises `MemoryBounds` and stores nothing, the two strobes as they were (R194). Choices of log entry 8: I unchanged is
decision D15, the reason D2, all or nothing D3, the latch D1, no wrap of I + 2 D14, a store anywhere in memory D22. -/
def Obligations.BcdStoresThreeDigits : Prop :=
  ∀ (x : RegNum) (s : State), s.mem.wf = true →
    (s.I.toNat ≤ 4093 → ∃ t, exec (.ldBcd x) s = .next t ∧
      (t.mem.read s.I.toNat).toNat = (s.readV x).toNat / 100 ∧
      (t.mem.read (s.I.toNat + 1)).toNat = (s.readV x).toNat / 10 % 10 ∧
      (t.mem.read (s.I.toNat + 2)).toNat = (s.readV x).toNat % 10 ∧
      (∀ a, a < s.I.toNat ∨ s.I.toNat + 2 < a → t.mem.read a = s.mem.read a) ∧
      t.pc.toNat = (s.pc.toNat + 2) % 65536 ∧ FrameBut [] [.memory] s t) ∧
    (4093 < s.I.toNat → ∃ t, exec (.ldBcd x) s = .next t ∧ t.fault = some .memoryBounds ∧
      t.out = ⟨.faulted .memoryBounds, s.out.keyPoll, s.out.unknownOp⟩ ∧ t.pc = s.pc ∧ FrameBut [] [.latch, .outputs] s t)

/-- `FX55` stores V0 to VX at I to I + X and no other byte, I unchanged; when I + X is above 4095 it raises `MemoryBounds`
and stores nothing, the two strobes as they were (R195, R68). Choices: which of the pair stores is reading G12 (log entry
12); I unchanged is decision D15, the reason D2, all or nothing D3, the latch D1, no wrap of I + X D14, a store anywhere in
memory D22 (log entry 8). -/
def Obligations.StoreWritesV0ToVx : Prop :=
  ∀ (x : RegNum) (s : State), s.mem.wf = true →
    (s.I.toNat + x.val ≤ 4095 → ∃ t, exec (.storeRegs x) s = .next t ∧
      (∀ k : RegNum, k ≤ x → t.mem.read (s.I.toNat + k.val) = s.readV k) ∧
      (∀ a, a < s.I.toNat ∨ s.I.toNat + x.val < a → t.mem.read a = s.mem.read a) ∧
      t.pc.toNat = (s.pc.toNat + 2) % 65536 ∧ FrameBut [] [.memory] s t) ∧
    (4095 < s.I.toNat + x.val → ∃ t, exec (.storeRegs x) s = .next t ∧ t.fault = some .memoryBounds ∧
      t.out = ⟨.faulted .memoryBounds, s.out.keyPoll, s.out.unknownOp⟩ ∧ t.pc = s.pc ∧ FrameBut [] [.latch, .outputs] s t)

/-- `FX65` loads V0 to VX from I to I + X and no other register, I unchanged; when I + X is above 4095 it raises
`MemoryBounds` and loads nothing, the two strobes as they were (R196, R68). Choices: which of the pair loads is reading G12
(log entry 12); I unchanged is decision D15, the reason D2, all or nothing D3, the latch D1, no wrap of I + X D14 (log entry
8). -/
def Obligations.LoadReadsV0ToVx : Prop :=
  ∀ (x : RegNum) (s : State),
    (s.I.toNat + x.val ≤ 4095 → ∃ t, exec (.loadRegs x) s = .next t ∧
      (∀ k : RegNum, t.readV k = if k ≤ x then s.mem.read (s.I.toNat + k.val) else s.readV k) ∧
      t.pc.toNat = (s.pc.toNat + 2) % 65536 ∧ FrameBut ((List.finRange 16).filter (· ≤ x)) [] s t) ∧
    (4095 < s.I.toNat + x.val → ∃ t, exec (.loadRegs x) s = .next t ∧ t.fault = some .memoryBounds ∧
      t.out = ⟨.faulted .memoryBounds, s.out.keyPoll, s.out.unknownOp⟩ ∧ t.pc = s.pc ∧ FrameBut [] [.latch, .outputs] s t)

/-- A load after a store at the same I gives V0 to VX back, whatever the registers held meanwhile (R195, R196, R69).
Choices: the load finds the same I because the store leaves I unchanged, which is decision D15 (R197), and the store may be
anywhere in memory, D22 (log entry 8); which of the pair stores is reading G12 (log entry 12). -/
def Obligations.LoadAfterStoreRestoresRegisters : Prop :=
  ∀ (x : RegNum) (s : State) (v : RegFile), s.mem.wf = true → s.I.toNat + x.val ≤ 4095 →
    ∃ t u, exec (.storeRegs x) s = .next t ∧ exec (.loadRegs x) (t.withV v) = .next u ∧
      ∀ k : RegNum, u.readV k = if k ≤ x then s.readV k else v[k]

/-- A store over code is seen by the very next step: V0, V1 stored at pc + 2 are the word it executes (R77). Choices: that
`FX55` is the store is reading G12 (log entry 12); no write protection is decision D22, a fetch at an odd pc D16, the order
of the phases D33 (log entry 8). -/
def Obligations.StoreOverCodeIsFetchedNext : Prop :=
  ∀ (x : RegNum) (s : State), s.mem.wf = true → s.fault = none → s.wait = none → 1 ≤ x.val →
    s.I.toNat = s.pc.toNat + 2 → s.I.toNat + x.val ≤ 4095 →
    ∃ t, exec (.storeRegs x) s = .next t ∧
      step t = exec (decodeWord (BitVec.ofNat 16 (256 * (s.readV 0).toNat + (s.readV 1).toNat))) t.prepared

/-! ### Display -/

/-- `00E0` clears every pixel and leaves VF alone (R211; admitted by decision D20, general knowledge G2, log entry 6). -/
def Obligations.ClearBlanksTheDisplay : Prop :=
  ∀ s : State, ∃ t, exec .cls s = .next t ∧ (∀ x y, t.fb.pixel x y = false) ∧
    t.pc.toNat = (s.pc.toNat + 2) % 65536 ∧ FrameBut [] [.display] s t

/-- A draw whose sprite lies in memory (or has no rows) flips each pixel the sprite lights and no other, both coordinates
wrapping, most significant bit first, and sets VF to 1 exactly when some such pixel was 1, else to 0 (R212 to R215). Choices
of log entry 8: a sprite of no rows is decision D21, the anchor read before VF is written D11, I unchanged D15, no wrap of
an effective address D14. -/
def Obligations.DrawXorsTheSpriteAndReportsCollision : Prop :=
  ∀ (x y : RegNum) (n : Nibble) (s : State), (n.toNat = 0 ∨ s.I.toNat + n.toNat - 1 ≤ 4095) →
    ∃ t, exec (.drw x y n) s = .next t ∧
      (∀ px py, SpriteLights s x y n.toNat px py → t.fb.pixel px py = !s.fb.pixel px py) ∧
      (∀ px py, ¬ SpriteLights s x y n.toNat px py → t.fb.pixel px py = s.fb.pixel px py) ∧
      ((∃ px py, SpriteLights s x y n.toNat px py ∧ s.fb.pixel px py = true) → (t.readV VF).toNat = 1) ∧
      ((∀ px py, SpriteLights s x y n.toNat px py → s.fb.pixel px py = false) → (t.readV VF).toNat = 0) ∧
      t.pc.toNat = (s.pc.toNat + 2) % 65536 ∧ FrameBut [VF] [.display] s t

/-- Drawing the same sprite twice at the same anchor restores the display (R219; a sprite of no rows, admitted here at any
I, is decision D21, R216, U7, log entry 8). The second draw starts from the display of the first, with the same registers,
memory and I. -/
def Obligations.DrawingTwiceRestoresTheDisplay : Prop :=
  ∀ (x y : RegNum) (n : Nibble) (s : State), (n.toNat = 0 ∨ s.I.toNat + n.toNat - 1 ≤ 4095) →
    ∃ t u, exec (.drw x y n) s = .next t ∧ exec (.drw x y n) (s.withFb t.fb) = .next u ∧ u.fb = s.fb

/-- Bit `64·y + x` of the snapshot port is the pixel in column x and row y (R45; the packing is decision D23, log entry 8,
what column and row mean on a screen general knowledge G9, log entry 12). -/
def Obligations.SnapshotBitIsThePixel : Prop :=
  ∀ (s : State) (x : Fin 64) (y : Fin 32), s.fbOut.getLsbD (64 * y.val + x.val) = s.fb.pixel x y

/-! ### Keypad -/

/-- `EX9E` skips when key VX[3:0] is down in this step, `EXA1` when it is up; neither looks at the key event (R231, R232,
R236; the polarity is general knowledge G6, log entry 12, the low nibble decision D9 and the levels as a port D7, log entry
8). -/
def Obligations.KeySkipsTestTheLevel : Prop :=
  ∀ (x : RegNum) (s : State),
    (∃ t, exec (.skp x) s = .next t ∧ FrameBut [] [] s t ∧ t.pc.toNat =
      (s.pc.toNat + if s.inp.keys.getLsbD ((s.readV x).toNat % 16) = true then 4 else 2) % 65536) ∧
    (∃ t, exec (.sknp x) s = .next t ∧ FrameBut [] [] s t ∧ t.pc.toNat =
      (s.pc.toNat + if s.inp.keys.getLsbD ((s.readV x).toNat % 16) = true then 2 else 4) % 65536)

/-- `FX0A` polls in the step that decodes it: with no event the machine waits at the same pc; with one it completes at once
(R233, R234; decision D8, the strobe `key_poll` D7, log entry 8). -/
def Obligations.KeyWaitBlocksOrCompletes : Prop :=
  ∀ (x : RegNum) (s : State),
    (s.inp.keyEvent = none → ∃ t, exec (.ldVxKey x) s = .next t ∧ t.wait = some x ∧ t.pc = s.pc ∧
      t.out = ⟨s.out.outcome, true, s.out.unknownOp⟩ ∧ FrameBut [] [.waitState, .outputs] s t) ∧
    (∀ k, s.inp.keyEvent = some k → ∃ t, exec (.ldVxKey x) s = .next t ∧ (t.readV x).toNat = k.val ∧ t.wait = none ∧
      t.pc.toNat = (s.pc.toNat + 2) % 65536 ∧ t.out = ⟨s.out.outcome, true, s.out.unknownOp⟩ ∧
      FrameBut [x] [.waitState, .outputs] s t)

/-! ### Timer instructions -/

/-- `FX07` reads DT, `FX15` sets DT, `FX18` sets ST, and the accumulator is touched by none (R255 to R257; which does which
is general knowledge G7, log entry 12; the accumulator is decision D5, log entry 8). -/
def Obligations.TimerInstructionsMoveOneTimer : Prop :=
  ∀ (x : RegNum) (s : State),
    (∃ t, exec (.ldVxDt x) s = .next t ∧ t.readV x = s.DT ∧ t.pc.toNat = (s.pc.toNat + 2) % 65536 ∧
      FrameBut [x] [] s t) ∧
    (∃ t, exec (.ldDtVx x) s = .next t ∧ t.DT = s.readV x ∧ t.pc.toNat = (s.pc.toNat + 2) % 65536 ∧
      FrameBut [] [.delayTimer] s t) ∧
    (∃ t, exec (.ldStVx x) s = .next t ∧ t.ST = s.readV x ∧ t.pc.toNat = (s.pc.toNat + 2) % 65536 ∧
      FrameBut [] [.soundTimer] s t)

/-! ### Rules of the whole machine -/

/-- Every instruction changes only the parts the spec's "written by" entries name for it (R22, R23, R26 to R29, R31, R37,
R66). Choices: that `FX15` writes DT and `FX18` ST is general knowledge G7, that `FX55` writes memory and `FX65` does not
reading G12 (log entry 12); that 0x00E0 writes the display is log entry 6 (decision D20); that the loads, the stores and the
draw leave I alone is decision D15, the wait sub-state D8, the latch D1, the reason of the memory instructions D2, the
strobes D7 and D24 (log entry 8). -/
def Obligations.OnlyNamedPartsAreWritten : Prop :=
  ∀ (i : Instr) (s t : State), exec i s = .next t → ∀ p, p ∉ i.touches → Part.Same s t p

/-- Every instruction changes only the registers the spec names for it; so VF only where R22's table, or its own X field or
range, says so (R21, R22). Choices: where no flag is listed VF stays by decision D12 (log entry 8); that `FX65` writes V0 to
VX and `FX55` no register is reading G12, and that `FX07` writes VX and `FX15` and `FX18` no register is general knowledge
G7 (log entry 12); that 0x00E0 writes no register is log entry 6 (decision D20). -/
def Obligations.OnlyNamedRegistersAreWritten : Prop :=
  ∀ (i : Instr) (s t : State), exec i s = .next t → ∀ k, k ∉ i.dests → t.readV k = s.readV k

/-- The list of faults is complete and faults are precise: an instruction raises exactly when R271's condition holds, and
then the state is as it was, the two strobes among it, but for the latch and the outcome; otherwise the latch stays (R271 to
R275). Choices of log entry 8: the latch is decision D1, the reason `MemoryBounds` D2, nothing else changed D3, no wrap of
an effective address D14, a sprite of no rows not raising D21. -/
def Obligations.FaultsAreListedAndPrecise : Prop :=
  ∀ (i : Instr) (s : State), ∃ t, exec i s = .next t ∧
    (∀ r, i.raises s = some r → t.fault = some r ∧
      t.out = ⟨.faulted r, s.out.keyPoll, s.out.unknownOp⟩ ∧ t.pc = s.pc ∧
      FrameBut [] [.latch, .outputs] s t) ∧
    (i.raises s = none → t.fault = s.fault)

/-- Where pc goes: to the row of R127's table for an instruction that does not raise, nowhere for one that does. Choices
beside R127 (log entries 8 and 12): the key of the two key skips is VX mod 16 by decision D9 (R236), `5XYn` and `9XYn` skip
at every n by decision D18 (R101), the sum of `BNNN` is D16, the popped address D17, `FX0A` completing in the step that
decodes it D8, no wrap of an effective address in what raises D14, a sprite of no rows not raising D21, pc kept by a raise
D3, the skips' polarity general knowledge G5 and G6. -/
def Obligations.PcMovesAsTheTableSays : Prop :=
  ∀ (i : Instr) (s t : State), exec i s = .next t →
    (i.raises s = none → t.pc.toNat = i.pcAfter s) ∧ (i.raises s ≠ none → t.pc = s.pc)

/-- The inputs reach only their readers: the random byte `CXKK`, the levels `EX9E` and `EXA1`, the event `FX0A` (R41 to R43;
the inputs as ports are decisions D6 and D7, log entry 8, and as fields of the state log entry 2). Two runs of an
instruction that differ in nothing it may read end alike but for the inputs themselves. -/
def Obligations.InputsReachOnlyTheirReaders : Prop :=
  ∀ (i : Instr) (s t : State) (j : StepInput), i.SameInputs s.inp j → exec i s = .next t →
    exec i { s with inp := j } = .next { t with inp := j }
end

