-- ==== Sys2Proof/Laws/Memory.lean ====
section
/-! SUPPORT. The laws of memory: a read after a write, and that every memory operation keeps the canonical form
(spec/20_memory.md R69, R74). -/

namespace Sys2Proof.Machine.Memory

/-- A memory in canonical form from `lo` on is in canonical form from any lower bound on. -/
theorem wfFrom_mono {lo lo' : Nat} (h : lo' ≤ lo) : ∀ {m : Memory}, wfFrom lo m = true → wfFrom lo' m = true
  | [], _ => rfl
  | (a, v) :: m, hm => by
    simp only [wfFrom, Bool.and_eq_true, decide_eq_true_eq] at hm ⊢
    exact ⟨⟨⟨by omega, hm.1.1.2⟩, hm.1.2⟩, hm.2⟩

/-- Below its first cell a canonical memory reads as the background. -/
theorem read_below {lo a : Nat} (h : a < lo) : ∀ {m : Memory}, wfFrom lo m = true → m.read a = background a
  | [], _ => rfl
  | (b, v) :: m, hm => by
    simp only [wfFrom, Bool.and_eq_true, decide_eq_true_eq] at hm
    have hab : a < b := by omega
    simp [read, hab]

theorem wfFrom_consCell {lo a : Nat} {v : Byte} {m : Memory} (hlo : lo ≤ a) (ha : a < Config.memSize)
    (hm : wfFrom (a + 1) m = true) : wfFrom lo (consCell a v m) = true := by
  unfold consCell
  split
  · exact wfFrom_mono (by omega) hm
  · simp_all [wfFrom]

theorem read_consCell {a b : Nat} {v : Byte} {m : Memory} (hm : wfFrom (a + 1) m = true) :
    (consCell a v m).read b = if b = a then v else m.read b := by
  unfold consCell
  split
  · next hv =>
    split
    · next h => subst h; rw [read_below (by omega) hm, hv]
    · rfl
  · simp only [read]
    split
    · next h => rw [if_neg (by omega), read_below (by omega) hm]
    · rfl

/-- A write inside memory keeps the canonical form. -/
theorem wfFrom_write {lo a : Nat} {v : Byte} (hlo : lo ≤ a) (ha : a < Config.memSize) :
    ∀ {m : Memory}, wfFrom lo m = true → wfFrom lo (m.write a v) = true
  | [], _ => wfFrom_consCell hlo ha rfl
  | (b, w) :: m, hm => by
    have hm' := hm
    simp only [wfFrom, Bool.and_eq_true, decide_eq_true_eq] at hm'
    unfold write
    split
    · next h =>
      refine wfFrom_consCell hlo ha ?_
      simp only [wfFrom, Bool.and_eq_true, decide_eq_true_eq]
      exact ⟨⟨⟨by omega, hm'.1.1.2⟩, hm'.1.2⟩, hm'.2⟩
    · split
      · next h => subst h; exact wfFrom_consCell hlo ha hm'.2
      · simp only [wfFrom, Bool.and_eq_true, decide_eq_true_eq]
        exact ⟨hm'.1, wfFrom_write (by omega) ha hm'.2⟩

/-- A read after a write: the value written at its address, the old byte everywhere else. -/
theorem read_write_from {lo a b : Nat} {v : Byte} :
    ∀ {m : Memory}, wfFrom lo m = true → (m.write a v).read b = if b = a then v else m.read b
  | [], _ => read_consCell rfl
  | (c, w) :: m, hm => by
    have hm' := hm
    simp only [wfFrom, Bool.and_eq_true, decide_eq_true_eq] at hm'
    unfold write
    split
    · next h =>
      refine read_consCell ?_
      simp only [wfFrom, Bool.and_eq_true, decide_eq_true_eq]
      exact ⟨⟨⟨by omega, hm'.1.1.2⟩, hm'.1.2⟩, hm'.2⟩
    · split
      · next h =>
        subst h
        rw [read_consCell hm'.2]
        simp only [read]
        split
        · rfl
        · split
          · next hb => exact read_below (by omega) hm'.2
          · rfl
      · simp only [read, read_write_from hm'.2]
        split
        · rw [if_neg (by omega)]
        · split
          · next hb => rw [if_neg (by omega)]
          · rfl

/-- A write inside memory keeps the canonical form. -/
theorem wf_write {m : Memory} {a : Nat} {v : Byte} (hm : m.wf = true) (ha : a < Config.memSize) :
    (m.write a v).wf = true := wfFrom_write (Nat.zero_le _) ha hm

/-- A read after a write (R69). -/
theorem read_write {m : Memory} (hm : m.wf = true) (a b : Nat) (v : Byte) :
    (m.write a v).read b = if b = a then v else m.read b := read_write_from hm

/-- Placing bytes inside memory keeps the canonical form. -/
theorem wf_writeBytes {bs : List Byte} : ∀ {m : Memory} {a : Nat}, m.wf = true → a + bs.length ≤ Config.memSize →
    (m.writeBytes a bs).wf = true := by
  induction bs with
  | nil => intro m a hm _; exact hm
  | cons b bs ih =>
    intro m a hm ha
    simp only [List.length_cons] at ha
    exact ih (wf_write hm (by omega)) (by omega)

/-- What a placed list of bytes reads as, address by address. -/
theorem read_writeBytes {bs : List Byte} : ∀ {m : Memory} {a : Nat}, m.wf = true → a + bs.length ≤ Config.memSize →
    ∀ b, (m.writeBytes a bs).read b = if a ≤ b ∧ b < a + bs.length then bs.getD (b - a) 0 else m.read b := by
  induction bs with
  | nil => intro m a _ _ b; rw [if_neg (by simp)]; rfl
  | cons c bs ih =>
    intro m a hm ha b
    simp only [List.length_cons] at ha ⊢
    simp only [writeBytes]
    rw [ih (wf_write hm (by omega)) (by omega) b, read_write hm]
    by_cases hb : b = a
    · subst hb; simp
    · by_cases h2 : a + 1 ≤ b ∧ b < a + 1 + bs.length
      · rw [if_pos h2, if_pos (by omega)]
        obtain ⟨k, rfl⟩ : ∃ k, b = a + 1 + k := ⟨b - (a + 1), by omega⟩
        have h3 : a + 1 + k - a = k + 1 := by omega
        have h4 : a + 1 + k - (a + 1) = k := by omega
        rw [h3, h4, List.getD_cons_succ]
      · rw [if_neg h2, if_neg hb, if_neg (by omega)]

/-- Memory right after reset is in canonical form. -/
theorem wf_reset : State.reset.mem.wf = true := rfl

/-- The byte at an address that exists. -/
theorem readByte_inside {m : Memory} {a : Nat} (h : a < Config.memSize) : m.readByte a = some (m.read a) := by
  simp [readByte, inMemory, h]

/-- An address that does not exist reads as nothing. -/
theorem readByte_outside {m : Memory} {a : Nat} (h : Config.memSize ≤ a) : m.readByte a = none := by
  simp [readByte, inMemory, Nat.not_lt.mpr h]

/-- A word inside memory is its two bytes, the one at the lower address high. -/
theorem readWord_inside {m : Memory} {a : Nat} (h : a + 1 < Config.memSize) :
    m.readWord a = some (joinBytes (m.read a) (m.read (a + 1))) := by
  simp [readWord, readByte_inside h, readByte_inside (Nat.lt_of_succ_lt h)]

/-- A word that reaches beyond memory reads as nothing. -/
theorem readWord_outside {m : Memory} {a : Nat} (h : Config.memSize ≤ a + 1) : m.readWord a = none := by
  simp only [readWord, readByte_outside h]
  split <;> simp_all

/-- A word that reads as something lies inside memory. -/
theorem readWord_eq_some {m : Memory} {a : Nat} {w : Word} (h : m.readWord a = some w) :
    a + 1 < Config.memSize ∧ w = joinBytes (m.read a) (m.read (a + 1)) := by
  by_cases ha : a + 1 < Config.memSize
  · rw [readWord_inside ha] at h
    exact ⟨ha, (Option.some.inj h).symm⟩
  · rw [readWord_outside (by omega)] at h
    exact absurd h (by simp)

end Sys2Proof.Machine.Memory
end

