-- ==== Sys2Proof/Laws/State.lean ====
section
/-! SUPPORT. One lemma per field per named update of the state, true by rfl: no later proof unfolds a record update. -/

namespace Sys2Proof.Machine.State

variable (s : State)

/-! ### setPc -/

@[simp] theorem setPc_V (p : Word) : (s.setPc p).V = s.V := rfl
@[simp] theorem setPc_I (p : Word) : (s.setPc p).I = s.I := rfl
@[simp] theorem setPc_pc (p : Word) : (s.setPc p).pc = p := rfl
@[simp] theorem setPc_stack (p : Word) : (s.setPc p).stack = s.stack := rfl
@[simp] theorem setPc_sp (p : Word) : (s.setPc p).sp = s.sp := rfl
@[simp] theorem setPc_DT (p : Word) : (s.setPc p).DT = s.DT := rfl
@[simp] theorem setPc_ST (p : Word) : (s.setPc p).ST = s.ST := rfl
@[simp] theorem setPc_acc3 (p : Word) : (s.setPc p).acc3 = s.acc3 := rfl
@[simp] theorem setPc_fb (p : Word) : (s.setPc p).fb = s.fb := rfl
@[simp] theorem setPc_mem (p : Word) : (s.setPc p).mem = s.mem := rfl
@[simp] theorem setPc_wait (p : Word) : (s.setPc p).wait = s.wait := rfl
@[simp] theorem setPc_fault (p : Word) : (s.setPc p).fault = s.fault := rfl
@[simp] theorem setPc_inp (p : Word) : (s.setPc p).inp = s.inp := rfl
@[simp] theorem setPc_pending (p : Word) : (s.setPc p).pending = s.pending := rfl
@[simp] theorem setPc_draws (p : Word) : (s.setPc p).draws = s.draws := rfl
@[simp] theorem setPc_out (p : Word) : (s.setPc p).out = s.out := rfl
@[simp] theorem setPc_readV (p : Word) (k : RegNum) : (s.setPc p).readV k = s.readV k := rfl

/-! ### advance -/

@[simp] theorem advance_V : (s.advance).V = s.V := rfl
@[simp] theorem advance_I : (s.advance).I = s.I := rfl
@[simp] theorem advance_pc : (s.advance).pc = s.pc + 2 := rfl
@[simp] theorem advance_stack : (s.advance).stack = s.stack := rfl
@[simp] theorem advance_sp : (s.advance).sp = s.sp := rfl
@[simp] theorem advance_DT : (s.advance).DT = s.DT := rfl
@[simp] theorem advance_ST : (s.advance).ST = s.ST := rfl
@[simp] theorem advance_acc3 : (s.advance).acc3 = s.acc3 := rfl
@[simp] theorem advance_fb : (s.advance).fb = s.fb := rfl
@[simp] theorem advance_mem : (s.advance).mem = s.mem := rfl
@[simp] theorem advance_wait : (s.advance).wait = s.wait := rfl
@[simp] theorem advance_fault : (s.advance).fault = s.fault := rfl
@[simp] theorem advance_inp : (s.advance).inp = s.inp := rfl
@[simp] theorem advance_pending : (s.advance).pending = s.pending := rfl
@[simp] theorem advance_draws : (s.advance).draws = s.draws := rfl
@[simp] theorem advance_out : (s.advance).out = s.out := rfl
@[simp] theorem advance_readV (k : RegNum) : (s.advance).readV k = s.readV k := rfl

/-! ### skipIf -/

@[simp] theorem skipIf_V (c : Bool) : (s.skipIf c).V = s.V := rfl
@[simp] theorem skipIf_I (c : Bool) : (s.skipIf c).I = s.I := rfl
@[simp] theorem skipIf_pc (c : Bool) : (s.skipIf c).pc = if c then s.pc + 4 else s.pc + 2 := rfl
@[simp] theorem skipIf_stack (c : Bool) : (s.skipIf c).stack = s.stack := rfl
@[simp] theorem skipIf_sp (c : Bool) : (s.skipIf c).sp = s.sp := rfl
@[simp] theorem skipIf_DT (c : Bool) : (s.skipIf c).DT = s.DT := rfl
@[simp] theorem skipIf_ST (c : Bool) : (s.skipIf c).ST = s.ST := rfl
@[simp] theorem skipIf_acc3 (c : Bool) : (s.skipIf c).acc3 = s.acc3 := rfl
@[simp] theorem skipIf_fb (c : Bool) : (s.skipIf c).fb = s.fb := rfl
@[simp] theorem skipIf_mem (c : Bool) : (s.skipIf c).mem = s.mem := rfl
@[simp] theorem skipIf_wait (c : Bool) : (s.skipIf c).wait = s.wait := rfl
@[simp] theorem skipIf_fault (c : Bool) : (s.skipIf c).fault = s.fault := rfl
@[simp] theorem skipIf_inp (c : Bool) : (s.skipIf c).inp = s.inp := rfl
@[simp] theorem skipIf_pending (c : Bool) : (s.skipIf c).pending = s.pending := rfl
@[simp] theorem skipIf_draws (c : Bool) : (s.skipIf c).draws = s.draws := rfl
@[simp] theorem skipIf_out (c : Bool) : (s.skipIf c).out = s.out := rfl
@[simp] theorem skipIf_readV (c : Bool) (k : RegNum) : (s.skipIf c).readV k = s.readV k := rfl

/-! ### writeV -/

@[simp] theorem writeV_V (x : RegNum) (v : Byte) : (s.writeV x v).V = s.V.set x v := rfl
@[simp] theorem writeV_I (x : RegNum) (v : Byte) : (s.writeV x v).I = s.I := rfl
@[simp] theorem writeV_pc (x : RegNum) (v : Byte) : (s.writeV x v).pc = s.pc := rfl
@[simp] theorem writeV_stack (x : RegNum) (v : Byte) : (s.writeV x v).stack = s.stack := rfl
@[simp] theorem writeV_sp (x : RegNum) (v : Byte) : (s.writeV x v).sp = s.sp := rfl
@[simp] theorem writeV_DT (x : RegNum) (v : Byte) : (s.writeV x v).DT = s.DT := rfl
@[simp] theorem writeV_ST (x : RegNum) (v : Byte) : (s.writeV x v).ST = s.ST := rfl
@[simp] theorem writeV_acc3 (x : RegNum) (v : Byte) : (s.writeV x v).acc3 = s.acc3 := rfl
@[simp] theorem writeV_fb (x : RegNum) (v : Byte) : (s.writeV x v).fb = s.fb := rfl
@[simp] theorem writeV_mem (x : RegNum) (v : Byte) : (s.writeV x v).mem = s.mem := rfl
@[simp] theorem writeV_wait (x : RegNum) (v : Byte) : (s.writeV x v).wait = s.wait := rfl
@[simp] theorem writeV_fault (x : RegNum) (v : Byte) : (s.writeV x v).fault = s.fault := rfl
@[simp] theorem writeV_inp (x : RegNum) (v : Byte) : (s.writeV x v).inp = s.inp := rfl
@[simp] theorem writeV_pending (x : RegNum) (v : Byte) : (s.writeV x v).pending = s.pending := rfl
@[simp] theorem writeV_draws (x : RegNum) (v : Byte) : (s.writeV x v).draws = s.draws := rfl
@[simp] theorem writeV_out (x : RegNum) (v : Byte) : (s.writeV x v).out = s.out := rfl

/-! ### writeI -/

@[simp] theorem writeI_V (v : Word) : (s.writeI v).V = s.V := rfl
@[simp] theorem writeI_I (v : Word) : (s.writeI v).I = v := rfl
@[simp] theorem writeI_pc (v : Word) : (s.writeI v).pc = s.pc := rfl
@[simp] theorem writeI_stack (v : Word) : (s.writeI v).stack = s.stack := rfl
@[simp] theorem writeI_sp (v : Word) : (s.writeI v).sp = s.sp := rfl
@[simp] theorem writeI_DT (v : Word) : (s.writeI v).DT = s.DT := rfl
@[simp] theorem writeI_ST (v : Word) : (s.writeI v).ST = s.ST := rfl
@[simp] theorem writeI_acc3 (v : Word) : (s.writeI v).acc3 = s.acc3 := rfl
@[simp] theorem writeI_fb (v : Word) : (s.writeI v).fb = s.fb := rfl
@[simp] theorem writeI_mem (v : Word) : (s.writeI v).mem = s.mem := rfl
@[simp] theorem writeI_wait (v : Word) : (s.writeI v).wait = s.wait := rfl
@[simp] theorem writeI_fault (v : Word) : (s.writeI v).fault = s.fault := rfl
@[simp] theorem writeI_inp (v : Word) : (s.writeI v).inp = s.inp := rfl
@[simp] theorem writeI_pending (v : Word) : (s.writeI v).pending = s.pending := rfl
@[simp] theorem writeI_draws (v : Word) : (s.writeI v).draws = s.draws := rfl
@[simp] theorem writeI_out (v : Word) : (s.writeI v).out = s.out := rfl
@[simp] theorem writeI_readV (v : Word) (k : RegNum) : (s.writeI v).readV k = s.readV k := rfl

/-! ### writeDT -/

@[simp] theorem writeDT_V (v : Byte) : (s.writeDT v).V = s.V := rfl
@[simp] theorem writeDT_I (v : Byte) : (s.writeDT v).I = s.I := rfl
@[simp] theorem writeDT_pc (v : Byte) : (s.writeDT v).pc = s.pc := rfl
@[simp] theorem writeDT_stack (v : Byte) : (s.writeDT v).stack = s.stack := rfl
@[simp] theorem writeDT_sp (v : Byte) : (s.writeDT v).sp = s.sp := rfl
@[simp] theorem writeDT_DT (v : Byte) : (s.writeDT v).DT = v := rfl
@[simp] theorem writeDT_ST (v : Byte) : (s.writeDT v).ST = s.ST := rfl
@[simp] theorem writeDT_acc3 (v : Byte) : (s.writeDT v).acc3 = s.acc3 := rfl
@[simp] theorem writeDT_fb (v : Byte) : (s.writeDT v).fb = s.fb := rfl
@[simp] theorem writeDT_mem (v : Byte) : (s.writeDT v).mem = s.mem := rfl
@[simp] theorem writeDT_wait (v : Byte) : (s.writeDT v).wait = s.wait := rfl
@[simp] theorem writeDT_fault (v : Byte) : (s.writeDT v).fault = s.fault := rfl
@[simp] theorem writeDT_inp (v : Byte) : (s.writeDT v).inp = s.inp := rfl
@[simp] theorem writeDT_pending (v : Byte) : (s.writeDT v).pending = s.pending := rfl
@[simp] theorem writeDT_draws (v : Byte) : (s.writeDT v).draws = s.draws := rfl
@[simp] theorem writeDT_out (v : Byte) : (s.writeDT v).out = s.out := rfl
@[simp] theorem writeDT_readV (v : Byte) (k : RegNum) : (s.writeDT v).readV k = s.readV k := rfl

/-! ### writeST -/

@[simp] theorem writeST_V (v : Byte) : (s.writeST v).V = s.V := rfl
@[simp] theorem writeST_I (v : Byte) : (s.writeST v).I = s.I := rfl
@[simp] theorem writeST_pc (v : Byte) : (s.writeST v).pc = s.pc := rfl
@[simp] theorem writeST_stack (v : Byte) : (s.writeST v).stack = s.stack := rfl
@[simp] theorem writeST_sp (v : Byte) : (s.writeST v).sp = s.sp := rfl
@[simp] theorem writeST_DT (v : Byte) : (s.writeST v).DT = s.DT := rfl
@[simp] theorem writeST_ST (v : Byte) : (s.writeST v).ST = v := rfl
@[simp] theorem writeST_acc3 (v : Byte) : (s.writeST v).acc3 = s.acc3 := rfl
@[simp] theorem writeST_fb (v : Byte) : (s.writeST v).fb = s.fb := rfl
@[simp] theorem writeST_mem (v : Byte) : (s.writeST v).mem = s.mem := rfl
@[simp] theorem writeST_wait (v : Byte) : (s.writeST v).wait = s.wait := rfl
@[simp] theorem writeST_fault (v : Byte) : (s.writeST v).fault = s.fault := rfl
@[simp] theorem writeST_inp (v : Byte) : (s.writeST v).inp = s.inp := rfl
@[simp] theorem writeST_pending (v : Byte) : (s.writeST v).pending = s.pending := rfl
@[simp] theorem writeST_draws (v : Byte) : (s.writeST v).draws = s.draws := rfl
@[simp] theorem writeST_out (v : Byte) : (s.writeST v).out = s.out := rfl
@[simp] theorem writeST_readV (v : Byte) (k : RegNum) : (s.writeST v).readV k = s.readV k := rfl

/-! ### withMem -/

@[simp] theorem withMem_V (m : Memory) : (s.withMem m).V = s.V := rfl
@[simp] theorem withMem_I (m : Memory) : (s.withMem m).I = s.I := rfl
@[simp] theorem withMem_pc (m : Memory) : (s.withMem m).pc = s.pc := rfl
@[simp] theorem withMem_stack (m : Memory) : (s.withMem m).stack = s.stack := rfl
@[simp] theorem withMem_sp (m : Memory) : (s.withMem m).sp = s.sp := rfl
@[simp] theorem withMem_DT (m : Memory) : (s.withMem m).DT = s.DT := rfl
@[simp] theorem withMem_ST (m : Memory) : (s.withMem m).ST = s.ST := rfl
@[simp] theorem withMem_acc3 (m : Memory) : (s.withMem m).acc3 = s.acc3 := rfl
@[simp] theorem withMem_fb (m : Memory) : (s.withMem m).fb = s.fb := rfl
@[simp] theorem withMem_mem (m : Memory) : (s.withMem m).mem = m := rfl
@[simp] theorem withMem_wait (m : Memory) : (s.withMem m).wait = s.wait := rfl
@[simp] theorem withMem_fault (m : Memory) : (s.withMem m).fault = s.fault := rfl
@[simp] theorem withMem_inp (m : Memory) : (s.withMem m).inp = s.inp := rfl
@[simp] theorem withMem_pending (m : Memory) : (s.withMem m).pending = s.pending := rfl
@[simp] theorem withMem_draws (m : Memory) : (s.withMem m).draws = s.draws := rfl
@[simp] theorem withMem_out (m : Memory) : (s.withMem m).out = s.out := rfl
@[simp] theorem withMem_readV (m : Memory) (k : RegNum) : (s.withMem m).readV k = s.readV k := rfl

/-! ### withV -/

@[simp] theorem withV_V (v : RegFile) : (s.withV v).V = v := rfl
@[simp] theorem withV_I (v : RegFile) : (s.withV v).I = s.I := rfl
@[simp] theorem withV_pc (v : RegFile) : (s.withV v).pc = s.pc := rfl
@[simp] theorem withV_stack (v : RegFile) : (s.withV v).stack = s.stack := rfl
@[simp] theorem withV_sp (v : RegFile) : (s.withV v).sp = s.sp := rfl
@[simp] theorem withV_DT (v : RegFile) : (s.withV v).DT = s.DT := rfl
@[simp] theorem withV_ST (v : RegFile) : (s.withV v).ST = s.ST := rfl
@[simp] theorem withV_acc3 (v : RegFile) : (s.withV v).acc3 = s.acc3 := rfl
@[simp] theorem withV_fb (v : RegFile) : (s.withV v).fb = s.fb := rfl
@[simp] theorem withV_mem (v : RegFile) : (s.withV v).mem = s.mem := rfl
@[simp] theorem withV_wait (v : RegFile) : (s.withV v).wait = s.wait := rfl
@[simp] theorem withV_fault (v : RegFile) : (s.withV v).fault = s.fault := rfl
@[simp] theorem withV_inp (v : RegFile) : (s.withV v).inp = s.inp := rfl
@[simp] theorem withV_pending (v : RegFile) : (s.withV v).pending = s.pending := rfl
@[simp] theorem withV_draws (v : RegFile) : (s.withV v).draws = s.draws := rfl
@[simp] theorem withV_out (v : RegFile) : (s.withV v).out = s.out := rfl

/-! ### withFb -/

@[simp] theorem withFb_V (f : Framebuffer) : (s.withFb f).V = s.V := rfl
@[simp] theorem withFb_I (f : Framebuffer) : (s.withFb f).I = s.I := rfl
@[simp] theorem withFb_pc (f : Framebuffer) : (s.withFb f).pc = s.pc := rfl
@[simp] theorem withFb_stack (f : Framebuffer) : (s.withFb f).stack = s.stack := rfl
@[simp] theorem withFb_sp (f : Framebuffer) : (s.withFb f).sp = s.sp := rfl
@[simp] theorem withFb_DT (f : Framebuffer) : (s.withFb f).DT = s.DT := rfl
@[simp] theorem withFb_ST (f : Framebuffer) : (s.withFb f).ST = s.ST := rfl
@[simp] theorem withFb_acc3 (f : Framebuffer) : (s.withFb f).acc3 = s.acc3 := rfl
@[simp] theorem withFb_fb (f : Framebuffer) : (s.withFb f).fb = f := rfl
@[simp] theorem withFb_mem (f : Framebuffer) : (s.withFb f).mem = s.mem := rfl
@[simp] theorem withFb_wait (f : Framebuffer) : (s.withFb f).wait = s.wait := rfl
@[simp] theorem withFb_fault (f : Framebuffer) : (s.withFb f).fault = s.fault := rfl
@[simp] theorem withFb_inp (f : Framebuffer) : (s.withFb f).inp = s.inp := rfl
@[simp] theorem withFb_pending (f : Framebuffer) : (s.withFb f).pending = s.pending := rfl
@[simp] theorem withFb_draws (f : Framebuffer) : (s.withFb f).draws = s.draws := rfl
@[simp] theorem withFb_out (f : Framebuffer) : (s.withFb f).out = s.out := rfl
@[simp] theorem withFb_readV (f : Framebuffer) (k : RegNum) : (s.withFb f).readV k = s.readV k := rfl

/-! ### setWait -/

@[simp] theorem setWait_V (w : Option RegNum) : (s.setWait w).V = s.V := rfl
@[simp] theorem setWait_I (w : Option RegNum) : (s.setWait w).I = s.I := rfl
@[simp] theorem setWait_pc (w : Option RegNum) : (s.setWait w).pc = s.pc := rfl
@[simp] theorem setWait_stack (w : Option RegNum) : (s.setWait w).stack = s.stack := rfl
@[simp] theorem setWait_sp (w : Option RegNum) : (s.setWait w).sp = s.sp := rfl
@[simp] theorem setWait_DT (w : Option RegNum) : (s.setWait w).DT = s.DT := rfl
@[simp] theorem setWait_ST (w : Option RegNum) : (s.setWait w).ST = s.ST := rfl
@[simp] theorem setWait_acc3 (w : Option RegNum) : (s.setWait w).acc3 = s.acc3 := rfl
@[simp] theorem setWait_fb (w : Option RegNum) : (s.setWait w).fb = s.fb := rfl
@[simp] theorem setWait_mem (w : Option RegNum) : (s.setWait w).mem = s.mem := rfl
@[simp] theorem setWait_wait (w : Option RegNum) : (s.setWait w).wait = w := rfl
@[simp] theorem setWait_fault (w : Option RegNum) : (s.setWait w).fault = s.fault := rfl
@[simp] theorem setWait_inp (w : Option RegNum) : (s.setWait w).inp = s.inp := rfl
@[simp] theorem setWait_pending (w : Option RegNum) : (s.setWait w).pending = s.pending := rfl
@[simp] theorem setWait_draws (w : Option RegNum) : (s.setWait w).draws = s.draws := rfl
@[simp] theorem setWait_out (w : Option RegNum) : (s.setWait w).out = s.out := rfl
@[simp] theorem setWait_readV (w : Option RegNum) (k : RegNum) : (s.setWait w).readV k = s.readV k := rfl

/-! ### report -/

@[simp] theorem report_V (o : CycleOutcome) : (s.report o).V = s.V := rfl
@[simp] theorem report_I (o : CycleOutcome) : (s.report o).I = s.I := rfl
@[simp] theorem report_pc (o : CycleOutcome) : (s.report o).pc = s.pc := rfl
@[simp] theorem report_stack (o : CycleOutcome) : (s.report o).stack = s.stack := rfl
@[simp] theorem report_sp (o : CycleOutcome) : (s.report o).sp = s.sp := rfl
@[simp] theorem report_DT (o : CycleOutcome) : (s.report o).DT = s.DT := rfl
@[simp] theorem report_ST (o : CycleOutcome) : (s.report o).ST = s.ST := rfl
@[simp] theorem report_acc3 (o : CycleOutcome) : (s.report o).acc3 = s.acc3 := rfl
@[simp] theorem report_fb (o : CycleOutcome) : (s.report o).fb = s.fb := rfl
@[simp] theorem report_mem (o : CycleOutcome) : (s.report o).mem = s.mem := rfl
@[simp] theorem report_wait (o : CycleOutcome) : (s.report o).wait = s.wait := rfl
@[simp] theorem report_fault (o : CycleOutcome) : (s.report o).fault = s.fault := rfl
@[simp] theorem report_inp (o : CycleOutcome) : (s.report o).inp = s.inp := rfl
@[simp] theorem report_pending (o : CycleOutcome) : (s.report o).pending = s.pending := rfl
@[simp] theorem report_draws (o : CycleOutcome) : (s.report o).draws = s.draws := rfl
@[simp] theorem report_out (o : CycleOutcome) : (s.report o).out = ⟨o, s.out.keyPoll, s.out.unknownOp⟩ := rfl
@[simp] theorem report_readV (o : CycleOutcome) (k : RegNum) : (s.report o).readV k = s.readV k := rfl

/-! ### strobeKeyPoll -/

@[simp] theorem strobeKeyPoll_V : (s.strobeKeyPoll).V = s.V := rfl
@[simp] theorem strobeKeyPoll_I : (s.strobeKeyPoll).I = s.I := rfl
@[simp] theorem strobeKeyPoll_pc : (s.strobeKeyPoll).pc = s.pc := rfl
@[simp] theorem strobeKeyPoll_stack : (s.strobeKeyPoll).stack = s.stack := rfl
@[simp] theorem strobeKeyPoll_sp : (s.strobeKeyPoll).sp = s.sp := rfl
@[simp] theorem strobeKeyPoll_DT : (s.strobeKeyPoll).DT = s.DT := rfl
@[simp] theorem strobeKeyPoll_ST : (s.strobeKeyPoll).ST = s.ST := rfl
@[simp] theorem strobeKeyPoll_acc3 : (s.strobeKeyPoll).acc3 = s.acc3 := rfl
@[simp] theorem strobeKeyPoll_fb : (s.strobeKeyPoll).fb = s.fb := rfl
@[simp] theorem strobeKeyPoll_mem : (s.strobeKeyPoll).mem = s.mem := rfl
@[simp] theorem strobeKeyPoll_wait : (s.strobeKeyPoll).wait = s.wait := rfl
@[simp] theorem strobeKeyPoll_fault : (s.strobeKeyPoll).fault = s.fault := rfl
@[simp] theorem strobeKeyPoll_inp : (s.strobeKeyPoll).inp = s.inp := rfl
@[simp] theorem strobeKeyPoll_pending : (s.strobeKeyPoll).pending = s.pending := rfl
@[simp] theorem strobeKeyPoll_draws : (s.strobeKeyPoll).draws = s.draws := rfl
@[simp] theorem strobeKeyPoll_out : (s.strobeKeyPoll).out = ⟨s.out.outcome, true, s.out.unknownOp⟩ := rfl
@[simp] theorem strobeKeyPoll_readV (k : RegNum) : (s.strobeKeyPoll).readV k = s.readV k := rfl

/-! ### strobeUnknown -/

@[simp] theorem strobeUnknown_V : (s.strobeUnknown).V = s.V := rfl
@[simp] theorem strobeUnknown_I : (s.strobeUnknown).I = s.I := rfl
@[simp] theorem strobeUnknown_pc : (s.strobeUnknown).pc = s.pc := rfl
@[simp] theorem strobeUnknown_stack : (s.strobeUnknown).stack = s.stack := rfl
@[simp] theorem strobeUnknown_sp : (s.strobeUnknown).sp = s.sp := rfl
@[simp] theorem strobeUnknown_DT : (s.strobeUnknown).DT = s.DT := rfl
@[simp] theorem strobeUnknown_ST : (s.strobeUnknown).ST = s.ST := rfl
@[simp] theorem strobeUnknown_acc3 : (s.strobeUnknown).acc3 = s.acc3 := rfl
@[simp] theorem strobeUnknown_fb : (s.strobeUnknown).fb = s.fb := rfl
@[simp] theorem strobeUnknown_mem : (s.strobeUnknown).mem = s.mem := rfl
@[simp] theorem strobeUnknown_wait : (s.strobeUnknown).wait = s.wait := rfl
@[simp] theorem strobeUnknown_fault : (s.strobeUnknown).fault = s.fault := rfl
@[simp] theorem strobeUnknown_inp : (s.strobeUnknown).inp = s.inp := rfl
@[simp] theorem strobeUnknown_pending : (s.strobeUnknown).pending = s.pending := rfl
@[simp] theorem strobeUnknown_draws : (s.strobeUnknown).draws = s.draws := rfl
@[simp] theorem strobeUnknown_out : (s.strobeUnknown).out = ⟨s.out.outcome, s.out.keyPoll, true⟩ := rfl
@[simp] theorem strobeUnknown_readV (k : RegNum) : (s.strobeUnknown).readV k = s.readV k := rfl

/-! ### raise -/

@[simp] theorem raise_V (r : Fault) : (s.raise r).V = s.V := rfl
@[simp] theorem raise_I (r : Fault) : (s.raise r).I = s.I := rfl
@[simp] theorem raise_pc (r : Fault) : (s.raise r).pc = s.pc := rfl
@[simp] theorem raise_stack (r : Fault) : (s.raise r).stack = s.stack := rfl
@[simp] theorem raise_sp (r : Fault) : (s.raise r).sp = s.sp := rfl
@[simp] theorem raise_DT (r : Fault) : (s.raise r).DT = s.DT := rfl
@[simp] theorem raise_ST (r : Fault) : (s.raise r).ST = s.ST := rfl
@[simp] theorem raise_acc3 (r : Fault) : (s.raise r).acc3 = s.acc3 := rfl
@[simp] theorem raise_fb (r : Fault) : (s.raise r).fb = s.fb := rfl
@[simp] theorem raise_mem (r : Fault) : (s.raise r).mem = s.mem := rfl
@[simp] theorem raise_wait (r : Fault) : (s.raise r).wait = s.wait := rfl
@[simp] theorem raise_fault (r : Fault) : (s.raise r).fault = some r := rfl
@[simp] theorem raise_inp (r : Fault) : (s.raise r).inp = s.inp := rfl
@[simp] theorem raise_pending (r : Fault) : (s.raise r).pending = s.pending := rfl
@[simp] theorem raise_draws (r : Fault) : (s.raise r).draws = s.draws := rfl
@[simp] theorem raise_out (r : Fault) : (s.raise r).out = ⟨.faulted r, s.out.keyPoll, s.out.unknownOp⟩ := rfl
@[simp] theorem raise_readV (r : Fault) (k : RegNum) : (s.raise r).readV k = s.readV k := rfl

/-! ### latchedStep -/

@[simp] theorem latchedStep_V (r : Fault) : (s.latchedStep r).V = s.V := rfl
@[simp] theorem latchedStep_I (r : Fault) : (s.latchedStep r).I = s.I := rfl
@[simp] theorem latchedStep_pc (r : Fault) : (s.latchedStep r).pc = s.pc := rfl
@[simp] theorem latchedStep_stack (r : Fault) : (s.latchedStep r).stack = s.stack := rfl
@[simp] theorem latchedStep_sp (r : Fault) : (s.latchedStep r).sp = s.sp := rfl
@[simp] theorem latchedStep_DT (r : Fault) : (s.latchedStep r).DT = s.DT := rfl
@[simp] theorem latchedStep_ST (r : Fault) : (s.latchedStep r).ST = s.ST := rfl
@[simp] theorem latchedStep_acc3 (r : Fault) : (s.latchedStep r).acc3 = s.acc3 := rfl
@[simp] theorem latchedStep_fb (r : Fault) : (s.latchedStep r).fb = s.fb := rfl
@[simp] theorem latchedStep_mem (r : Fault) : (s.latchedStep r).mem = s.mem := rfl
@[simp] theorem latchedStep_wait (r : Fault) : (s.latchedStep r).wait = s.wait := rfl
@[simp] theorem latchedStep_fault (r : Fault) : (s.latchedStep r).fault = s.fault := rfl
@[simp] theorem latchedStep_inp (r : Fault) : (s.latchedStep r).inp = s.inp := rfl
@[simp] theorem latchedStep_pending (r : Fault) : (s.latchedStep r).pending = s.pending := rfl
@[simp] theorem latchedStep_draws (r : Fault) : (s.latchedStep r).draws = s.draws := rfl
@[simp] theorem latchedStep_out (r : Fault) : (s.latchedStep r).out = ⟨.faulted r, false, false⟩ := rfl
@[simp] theorem latchedStep_readV (r : Fault) (k : RegNum) : (s.latchedStep r).readV k = s.readV k := rfl

/-! ### unknownNoOp -/

@[simp] theorem unknownNoOp_V : (s.unknownNoOp).V = s.V := rfl
@[simp] theorem unknownNoOp_I : (s.unknownNoOp).I = s.I := rfl
@[simp] theorem unknownNoOp_pc : (s.unknownNoOp).pc = s.pc + 2 := rfl
@[simp] theorem unknownNoOp_stack : (s.unknownNoOp).stack = s.stack := rfl
@[simp] theorem unknownNoOp_sp : (s.unknownNoOp).sp = s.sp := rfl
@[simp] theorem unknownNoOp_DT : (s.unknownNoOp).DT = s.DT := rfl
@[simp] theorem unknownNoOp_ST : (s.unknownNoOp).ST = s.ST := rfl
@[simp] theorem unknownNoOp_acc3 : (s.unknownNoOp).acc3 = s.acc3 := rfl
@[simp] theorem unknownNoOp_fb : (s.unknownNoOp).fb = s.fb := rfl
@[simp] theorem unknownNoOp_mem : (s.unknownNoOp).mem = s.mem := rfl
@[simp] theorem unknownNoOp_wait : (s.unknownNoOp).wait = s.wait := rfl
@[simp] theorem unknownNoOp_fault : (s.unknownNoOp).fault = s.fault := rfl
@[simp] theorem unknownNoOp_inp : (s.unknownNoOp).inp = s.inp := rfl
@[simp] theorem unknownNoOp_pending : (s.unknownNoOp).pending = s.pending := rfl
@[simp] theorem unknownNoOp_draws : (s.unknownNoOp).draws = s.draws := rfl
@[simp] theorem unknownNoOp_out : (s.unknownNoOp).out = ⟨s.out.outcome, s.out.keyPoll, true⟩ := rfl
@[simp] theorem unknownNoOp_readV (k : RegNum) : (s.unknownNoOp).readV k = s.readV k := rfl

/-! ### finish -/

@[simp] theorem finish_V (x : RegNum) (v : Byte) : (s.finish x v).V = s.V.set x v := rfl
@[simp] theorem finish_I (x : RegNum) (v : Byte) : (s.finish x v).I = s.I := rfl
@[simp] theorem finish_pc (x : RegNum) (v : Byte) : (s.finish x v).pc = s.pc + 2 := rfl
@[simp] theorem finish_stack (x : RegNum) (v : Byte) : (s.finish x v).stack = s.stack := rfl
@[simp] theorem finish_sp (x : RegNum) (v : Byte) : (s.finish x v).sp = s.sp := rfl
@[simp] theorem finish_DT (x : RegNum) (v : Byte) : (s.finish x v).DT = s.DT := rfl
@[simp] theorem finish_ST (x : RegNum) (v : Byte) : (s.finish x v).ST = s.ST := rfl
@[simp] theorem finish_acc3 (x : RegNum) (v : Byte) : (s.finish x v).acc3 = s.acc3 := rfl
@[simp] theorem finish_fb (x : RegNum) (v : Byte) : (s.finish x v).fb = s.fb := rfl
@[simp] theorem finish_mem (x : RegNum) (v : Byte) : (s.finish x v).mem = s.mem := rfl
@[simp] theorem finish_wait (x : RegNum) (v : Byte) : (s.finish x v).wait = s.wait := rfl
@[simp] theorem finish_fault (x : RegNum) (v : Byte) : (s.finish x v).fault = s.fault := rfl
@[simp] theorem finish_inp (x : RegNum) (v : Byte) : (s.finish x v).inp = s.inp := rfl
@[simp] theorem finish_pending (x : RegNum) (v : Byte) : (s.finish x v).pending = s.pending := rfl
@[simp] theorem finish_draws (x : RegNum) (v : Byte) : (s.finish x v).draws = s.draws := rfl
@[simp] theorem finish_out (x : RegNum) (v : Byte) : (s.finish x v).out = s.out := rfl

/-! ### finishFlag -/

@[simp] theorem finishFlag_V (x : RegNum) (v f : Byte) : (s.finishFlag x v f).V = (s.V.set x v).set VF f := rfl
@[simp] theorem finishFlag_I (x : RegNum) (v f : Byte) : (s.finishFlag x v f).I = s.I := rfl
@[simp] theorem finishFlag_pc (x : RegNum) (v f : Byte) : (s.finishFlag x v f).pc = s.pc + 2 := rfl
@[simp] theorem finishFlag_stack (x : RegNum) (v f : Byte) : (s.finishFlag x v f).stack = s.stack := rfl
@[simp] theorem finishFlag_sp (x : RegNum) (v f : Byte) : (s.finishFlag x v f).sp = s.sp := rfl
@[simp] theorem finishFlag_DT (x : RegNum) (v f : Byte) : (s.finishFlag x v f).DT = s.DT := rfl
@[simp] theorem finishFlag_ST (x : RegNum) (v f : Byte) : (s.finishFlag x v f).ST = s.ST := rfl
@[simp] theorem finishFlag_acc3 (x : RegNum) (v f : Byte) : (s.finishFlag x v f).acc3 = s.acc3 := rfl
@[simp] theorem finishFlag_fb (x : RegNum) (v f : Byte) : (s.finishFlag x v f).fb = s.fb := rfl
@[simp] theorem finishFlag_mem (x : RegNum) (v f : Byte) : (s.finishFlag x v f).mem = s.mem := rfl
@[simp] theorem finishFlag_wait (x : RegNum) (v f : Byte) : (s.finishFlag x v f).wait = s.wait := rfl
@[simp] theorem finishFlag_fault (x : RegNum) (v f : Byte) : (s.finishFlag x v f).fault = s.fault := rfl
@[simp] theorem finishFlag_inp (x : RegNum) (v f : Byte) : (s.finishFlag x v f).inp = s.inp := rfl
@[simp] theorem finishFlag_pending (x : RegNum) (v f : Byte) : (s.finishFlag x v f).pending = s.pending := rfl
@[simp] theorem finishFlag_draws (x : RegNum) (v f : Byte) : (s.finishFlag x v f).draws = s.draws := rfl
@[simp] theorem finishFlag_out (x : RegNum) (v f : Byte) : (s.finishFlag x v f).out = s.out := rfl

/-! ### afterDraw -/

@[simp] theorem afterDraw_V (d : DrawAcc) : (s.afterDraw d).V = s.V.set VF (flagByte d.2) := rfl
@[simp] theorem afterDraw_I (d : DrawAcc) : (s.afterDraw d).I = s.I := rfl
@[simp] theorem afterDraw_pc (d : DrawAcc) : (s.afterDraw d).pc = s.pc + 2 := rfl
@[simp] theorem afterDraw_stack (d : DrawAcc) : (s.afterDraw d).stack = s.stack := rfl
@[simp] theorem afterDraw_sp (d : DrawAcc) : (s.afterDraw d).sp = s.sp := rfl
@[simp] theorem afterDraw_DT (d : DrawAcc) : (s.afterDraw d).DT = s.DT := rfl
@[simp] theorem afterDraw_ST (d : DrawAcc) : (s.afterDraw d).ST = s.ST := rfl
@[simp] theorem afterDraw_acc3 (d : DrawAcc) : (s.afterDraw d).acc3 = s.acc3 := rfl
@[simp] theorem afterDraw_fb (d : DrawAcc) : (s.afterDraw d).fb = d.1 := rfl
@[simp] theorem afterDraw_mem (d : DrawAcc) : (s.afterDraw d).mem = s.mem := rfl
@[simp] theorem afterDraw_wait (d : DrawAcc) : (s.afterDraw d).wait = s.wait := rfl
@[simp] theorem afterDraw_fault (d : DrawAcc) : (s.afterDraw d).fault = s.fault := rfl
@[simp] theorem afterDraw_inp (d : DrawAcc) : (s.afterDraw d).inp = s.inp := rfl
@[simp] theorem afterDraw_pending (d : DrawAcc) : (s.afterDraw d).pending = s.pending := rfl
@[simp] theorem afterDraw_draws (d : DrawAcc) : (s.afterDraw d).draws = s.draws := rfl
@[simp] theorem afterDraw_out (d : DrawAcc) : (s.afterDraw d).out = s.out := rfl

/-! ### advanceTimers -/

@[simp] theorem advanceTimers_V (e : Nat) : (s.advanceTimers e).V = s.V := rfl
@[simp] theorem advanceTimers_I (e : Nat) : (s.advanceTimers e).I = s.I := rfl
@[simp] theorem advanceTimers_pc (e : Nat) : (s.advanceTimers e).pc = s.pc := rfl
@[simp] theorem advanceTimers_stack (e : Nat) : (s.advanceTimers e).stack = s.stack := rfl
@[simp] theorem advanceTimers_sp (e : Nat) : (s.advanceTimers e).sp = s.sp := rfl
@[simp] theorem advanceTimers_DT (e : Nat) : (s.advanceTimers e).DT = tickDown s.DT ((s.acc3.val + 3 * e) / 50) := rfl
@[simp] theorem advanceTimers_ST (e : Nat) : (s.advanceTimers e).ST = tickDown s.ST ((s.acc3.val + 3 * e) / 50) := rfl
@[simp] theorem advanceTimers_acc3 (e : Nat) : (s.advanceTimers e).acc3 = ⟨(s.acc3.val + 3 * e) % 50, Nat.mod_lt _ (by decide)⟩ := rfl
@[simp] theorem advanceTimers_fb (e : Nat) : (s.advanceTimers e).fb = s.fb := rfl
@[simp] theorem advanceTimers_mem (e : Nat) : (s.advanceTimers e).mem = s.mem := rfl
@[simp] theorem advanceTimers_wait (e : Nat) : (s.advanceTimers e).wait = s.wait := rfl
@[simp] theorem advanceTimers_fault (e : Nat) : (s.advanceTimers e).fault = s.fault := rfl
@[simp] theorem advanceTimers_inp (e : Nat) : (s.advanceTimers e).inp = s.inp := rfl
@[simp] theorem advanceTimers_pending (e : Nat) : (s.advanceTimers e).pending = s.pending := rfl
@[simp] theorem advanceTimers_draws (e : Nat) : (s.advanceTimers e).draws = s.draws := rfl
@[simp] theorem advanceTimers_out (e : Nat) : (s.advanceTimers e).out = s.out := rfl
@[simp] theorem advanceTimers_readV (e : Nat) (k : RegNum) : (s.advanceTimers e).readV k = s.readV k := rfl

end Sys2Proof.Machine.State
end

