-- ==== Sys2Proof/Laws/Ops.lean ====
section
/-! SUPPORT. What each shared operation over registers, stack, pixels and blocks can do, said once. -/

namespace Sys2Proof.Machine

/-! ### Registers -/

/-- A register read after a register write (R21). -/
theorem State.readV_writeV (s : State) (x k : RegNum) (v : Byte) :
    (s.writeV x v).readV k = if k = x then v else s.readV k := by
  simp only [State.readV, State.writeV, Fin.getElem_fin, Vector.getElem_set]
  by_cases h : k = x
  · simp [h]
  · rw [if_neg (fun hx => h (Fin.ext hx.symm)), if_neg h]

@[simp] theorem State.readV_writeV_same (s : State) (x : RegNum) (v : Byte) : (s.writeV x v).readV x = v := by
  simp [State.readV_writeV]

/-! ### The call stack (R26, R142, R143) -/

/-- A push with room: the slot at `sp` is written and `sp` goes up by one. -/
theorem State.push_room (s : State) (a : Word) (h : s.sp.val < 16) :
    s.push a = some { s with stack := s.stack.set s.sp.val a, sp := ⟨s.sp.val + 1, by omega⟩ } := by
  simp [State.push, h]

/-- A push with 16 addresses held fails. -/
theorem State.push_full (s : State) (a : Word) (h : s.sp = 16) : s.push a = none := by
  simp [State.push, h]

/-- A pop with an address held: the slot below `sp`, `sp` goes down by one, the slots stay. -/
theorem State.pop_held (s : State) (h : 0 < s.sp.val) :
    s.pop = some (s.stack[s.sp.val - 1]'(by have := s.sp.isLt; omega), { s with sp := ⟨s.sp.val - 1, by omega⟩ }) := by
  simp [State.pop, h]

/-- A pop with nothing held fails. -/
theorem State.pop_empty (s : State) (h : s.sp = 0) : s.pop = none := by
  simp [State.pop, h]

/-- What a push that succeeds has done. -/
theorem State.push_eq_some {s t : State} {a : Word} (h : s.push a = some t) :
    ∃ hs : s.sp.val < 16, t = { s with stack := s.stack.set s.sp.val a, sp := ⟨s.sp.val + 1, by omega⟩ } := by
  unfold State.push at h
  split at h
  · next hs => exact ⟨hs, (Option.some.inj h).symm⟩
  · exact absurd h (by simp)

/-- What a pop that succeeds has done. -/
theorem State.pop_eq_some {s t : State} {a : Word} (h : s.pop = some (a, t)) :
    ∃ hs : 0 < s.sp.val, a = s.stack[s.sp.val - 1]'(by have := s.sp.isLt; omega) ∧
      t = { s with sp := ⟨s.sp.val - 1, by omega⟩ } := by
  unfold State.pop at h
  split at h
  · next hs =>
    obtain ⟨h1, h2⟩ := Prod.mk.inj (Option.some.inj h)
    exact ⟨hs, h1.symm, h2.symm⟩
  · exact absurd h (by simp)

/-! ### Pixels (R29) -/

/-- A pixel read after a pixel write. -/
theorem Framebuffer.pixel_setPixel (f : Framebuffer) (x x' : Fin 64) (y y' : Fin 32) (b : Bool) :
    (f.setPixel x y b).pixel x' y' = if x' = x ∧ y' = y then b else f.pixel x' y' := by
  unfold Framebuffer.setPixel Framebuffer.pixel
  simp only [Fin.getElem_fin, Vector.getElem_set]
  by_cases hy : y' = y
  · subst hy
    have hx' : (x'.val < 64) := x'.isLt
    by_cases hx : x' = x
    · subst hx
      cases b <;> simp
    · have hne : ¬ x'.val = x.val := fun h => hx (Fin.ext h)
      cases b <;> simp [hne, hx]
  · have hne : ¬ y.val = y'.val := fun h => hy (Fin.ext h.symm)
    simp [hne, hy]

/-- A blank framebuffer has no lit pixel (R211). -/
@[simp] theorem Framebuffer.pixel_blank (x : Fin 64) (y : Fin 32) : Framebuffer.blank.pixel x y = false := by
  simp [Framebuffer.blank, Framebuffer.pixel]

/-- Framebuffers that agree on every pixel are equal. -/
theorem Framebuffer.ext_pixel {f g : Framebuffer} (h : ∀ x y, f.pixel x y = g.pixel x y) : f = g := by
  apply Vector.ext
  intro i hi
  apply BitVec.eq_of_getLsbD_eq
  intro j hj
  exact h ⟨j, hj⟩ ⟨i, hi⟩

/-! ### Block transfers (R195, R196) -/

/-- Storing `n` registers inside memory keeps the canonical form. -/
theorem wf_storeRange {v : RegFile} {a : Nat} {m : Memory} (hm : m.wf = true) :
    ∀ n, a + n ≤ Config.memSize → (storeRange v a m n).wf = true
  | 0, _ => hm
  | n + 1, h => by
    unfold storeRange
    split
    · exact Memory.wf_write (wf_storeRange hm n (by omega)) (by omega)
    · exact wf_storeRange hm n (by omega)

/-- What memory reads as after `n` registers are stored from `a` on. -/
theorem read_storeRange {v : RegFile} {a : Nat} {m : Memory} (hm : m.wf = true) :
    ∀ n, (hn : n ≤ 16) → a + n ≤ Config.memSize → ∀ b, (storeRange v a m n).read b =
      if h : a ≤ b ∧ b < a + n then v[b - a]'(by omega) else m.read b
  | 0, _, _, b => by rw [dif_neg (by omega)]; rfl
  | n + 1, hn, h, b => by
    unfold storeRange
    rw [dif_pos (by omega : n < 16), Memory.read_write (wf_storeRange hm n (by omega)), read_storeRange hm n (by omega) (by omega)]
    by_cases hb : b = a + n
    · subst hb; simp
    · rw [if_neg hb]
      by_cases h2 : a ≤ b ∧ b < a + n
      · rw [dif_pos h2, dif_pos (by omega)]
      · rw [dif_neg h2, dif_neg (by omega)]

/-- What the register file holds after `n` registers are loaded from `a` on. -/
theorem getElem_loadRange {m : Memory} {a : Nat} {v : RegFile} :
    ∀ n, n ≤ 16 → ∀ k : RegNum, (loadRange m a v n)[k] = if k.val < n then m.read (a + k.val) else v[k]
  | 0, _, k => by simp [loadRange]
  | n + 1, hn, k => by
    unfold loadRange
    have ih := getElem_loadRange (m := m) (a := a) (v := v) n (by omega) k
    simp only [Fin.getElem_fin] at ih ⊢
    simp only [dif_pos (by omega : n < 16), Vector.getElem_set, ih]
    by_cases hk : n = k.val
    · rw [if_pos hk, if_pos (by omega), hk]
    · rw [if_neg hk]
      by_cases h2 : k.val < n
      · rw [if_pos h2, if_pos (by omega)]
      · rw [if_neg h2, if_neg (by omega)]

/-! ### Guarded accesses (R68) -/

/-- A guarded access inside memory is the access. -/
theorem State.guarded_inside {s : State} {top : Nat} {t : State} (h : s.I.toNat + top < Config.memSize) :
    s.guarded top t = .next t := by
  simp [State.guarded, State.addr, inMemory, h]

/-- A guarded access that reaches beyond memory raises `MemoryBounds`. -/
theorem State.guarded_outside {s : State} {top : Nat} {t : State} (h : Config.memSize ≤ s.I.toNat + top) :
    s.guarded top t = .next (s.raise .memoryBounds) := by
  simp [State.guarded, State.addr, inMemory, Nat.not_lt.mpr h]

/-! ### Flags (R22) -/

/-- A flag is 0 or 1. -/
theorem flagByte_toNat (c : Bool) : (flagByte c).toNat = if c then 1 else 0 := by cases c <;> rfl

/-! ### Drawing (R212) -/

/-- What one pixel of a draw does to the display. -/
theorem drawPixel_pixel (x x' : Fin 64) (y y' : Fin 32) (bit : Bool) (d : DrawAcc) :
    (drawPixel x y bit d).1.pixel x' y' = if x' = x ∧ y' = y then (d.1.pixel x' y' ^^ bit) else d.1.pixel x' y' := by
  rw [drawPixel, Framebuffer.pixel_setPixel]
  split
  · next h => rw [h.1, h.2]
  · rfl

/-- What one pixel of a draw does to the collision (R215). -/
theorem drawPixel_hit (x : Fin 64) (y : Fin 32) (bit : Bool) (d : DrawAcc) :
    (drawPixel x y bit d).2 = (d.2 || (bit && d.1.pixel x y)) := rfl

/-! ### Timers (R252) -/

/-- A timer after `n` ticks, as a number: lowered by `n`, floor 0 (R254). -/
theorem tickDown_toNat (t : Byte) (n : Nat) : (tickDown t n).toNat = t.toNat - n := by
  have ht := t.isLt
  unfold tickDown
  split
  · rw [BitVec.toNat_ofNat, Nat.mod_eq_of_lt (by omega)]
  · show 0 = _
    omega

/-! ### Polling (R234) -/

/-- A poll without an event only reports itself. -/
theorem State.pollKey_none (s : State) (x : RegNum) (h : s.inp.keyEvent = none) : s.pollKey x = s.strobeKeyPoll := by
  simp [State.pollKey, h]

/-- A poll with an event writes the key number, ends the wait and moves on. -/
theorem State.pollKey_some (s : State) (x : RegNum) (k : Key) (h : s.inp.keyEvent = some k) :
    s.pollKey x = ((s.strobeKeyPoll.writeV x (BitVec.ofNat 8 k.val)).setWait none).advance := by
  simp [State.pollKey, h]

end Sys2Proof.Machine
end

