-- ==== Sys2Proof/Laws/Cycle.lean ====
section
/-! SUPPORT. The phases of a step: what sampling and preparing leave alone, and the five things a step can do
(spec/40_step_cycle.md R120). -/

namespace Sys2Proof.Machine

namespace State

variable (s : State)

/-- Sampling takes the oldest scripted inputs. -/
theorem sample_cons {i : StepInput} {rest : List StepInput} (h : s.pending = i :: rest) :
    s.sample = { s with inp := i, pending := rest } := by
  simp [sample, h]

/-- Sampling with nothing scripted takes free values. -/
theorem sample_nil (h : s.pending = []) : s.sample = { s with inp := freeInput s.draws, draws := s.draws + 1 } := by
  simp [sample, h]

/-- Sampling changes the input fields and nothing else. -/
theorem sample_eq : ∃ i rest d, s.sample = { s with inp := i, pending := rest, draws := d } := by
  unfold sample
  split
  · exact ⟨_, _, _, rfl⟩
  · exact ⟨_, s.pending, _, rfl⟩

/-- What the scripted step samples. -/
theorem prepared_inputs_cons {i : StepInput} {rest : List StepInput} (h : s.pending = i :: rest) :
    s.prepared.inp = i ∧ s.prepared.pending = rest ∧ s.prepared.draws = s.draws := by
  simp [prepared, State.begin, s.sample_cons h]

/-- What the unscripted step samples. -/
theorem prepared_inputs_nil (h : s.pending = []) :
    s.prepared.inp = freeInput s.draws ∧ s.prepared.pending = [] ∧ s.prepared.draws = s.draws + 1 := by
  simp [prepared, State.begin, s.sample_nil h, h]

/-- The delay timer after phase 1 (R252). -/
theorem prepared_DT_toNat : s.prepared.DT.toNat = s.DT.toNat - (s.acc3.val + 3 * s.prepared.inp.elapsedMs) / 50 := by
  obtain ⟨i, r, d, h⟩ := s.sample_eq
  simp [prepared, State.begin, h, tickDown_toNat]

/-- The sound timer after phase 1 (R252). -/
theorem prepared_ST_toNat : s.prepared.ST.toNat = s.ST.toNat - (s.acc3.val + 3 * s.prepared.inp.elapsedMs) / 50 := by
  obtain ⟨i, r, d, h⟩ := s.sample_eq
  simp [prepared, State.begin, h, tickDown_toNat]

/-- The accumulator after phase 1 (R252). -/
theorem prepared_acc3_val : s.prepared.acc3.val = (s.acc3.val + 3 * s.prepared.inp.elapsedMs) % 50 := by
  obtain ⟨i, r, d, h⟩ := s.sample_eq
  simp [prepared, State.begin, h]

@[simp] theorem prepared_V : s.prepared.V = s.V := by
  obtain ⟨i, r, d, h⟩ := s.sample_eq
  simp [prepared, State.begin, h]

@[simp] theorem prepared_I : s.prepared.I = s.I := by
  obtain ⟨i, r, d, h⟩ := s.sample_eq
  simp [prepared, State.begin, h]

@[simp] theorem prepared_pc : s.prepared.pc = s.pc := by
  obtain ⟨i, r, d, h⟩ := s.sample_eq
  simp [prepared, State.begin, h]

@[simp] theorem prepared_stack : s.prepared.stack = s.stack := by
  obtain ⟨i, r, d, h⟩ := s.sample_eq
  simp [prepared, State.begin, h]

@[simp] theorem prepared_sp : s.prepared.sp = s.sp := by
  obtain ⟨i, r, d, h⟩ := s.sample_eq
  simp [prepared, State.begin, h]

@[simp] theorem prepared_fb : s.prepared.fb = s.fb := by
  obtain ⟨i, r, d, h⟩ := s.sample_eq
  simp [prepared, State.begin, h]

@[simp] theorem prepared_mem : s.prepared.mem = s.mem := by
  obtain ⟨i, r, d, h⟩ := s.sample_eq
  simp [prepared, State.begin, h]

@[simp] theorem prepared_wait : s.prepared.wait = s.wait := by
  obtain ⟨i, r, d, h⟩ := s.sample_eq
  simp [prepared, State.begin, h]

@[simp] theorem prepared_fault : s.prepared.fault = s.fault := by
  obtain ⟨i, r, d, h⟩ := s.sample_eq
  simp [prepared, State.begin, h]

@[simp] theorem prepared_readV (k : RegNum) : s.prepared.readV k = s.readV k := by simp [readV]

@[simp] theorem prepared_out : s.prepared.out = .quiet := rfl

@[simp] theorem prepared_fetch : s.prepared.fetch = s.fetch := by simp [fetch]

end State

/-! ### What a step can do -/

/-- A latched step (R121). -/
theorem step_latched {s : State} {r : Fault} (h : s.fault = some r) : step s = .next (s.latchedStep r) := by
  simp [step, State.cycle, h]

/-- A waiting step (R123). -/
theorem step_waiting {s : State} {x : RegNum} (hf : s.fault = none) (hw : s.wait = some x) :
    step s = .next (s.prepared.pollKey x) := by
  simp [step, State.cycle, hf, hw]

/-- A step whose fetch fails (R124). -/
theorem step_fetch_fault {s : State} (hf : s.fault = none) (hw : s.wait = none) (hn : s.fetch = none) :
    step s = .next (s.prepared.raise .memoryBounds) := by
  simp [step, State.cycle, State.runInstruction, hf, hw, hn]

/-- A step that executes (R126). -/
theorem step_runs {s : State} {w : Word} (hf : s.fault = none) (hw : s.wait = none) (hn : s.fetch = some w) :
    step s = exec (decodeWord w) s.prepared := by
  simp [step, State.cycle, State.runInstruction, hf, hw, hn]

/-- Every step is one of four: latched, waiting, a failed fetch, an execution (R120). -/
theorem step_cases (s : State) :
    (∃ r, s.fault = some r ∧ step s = .next (s.latchedStep r)) ∨
    (∃ x, s.fault = none ∧ s.wait = some x ∧ step s = .next (s.prepared.pollKey x)) ∨
    (s.fault = none ∧ s.wait = none ∧ s.fetch = none ∧ step s = .next (s.prepared.raise .memoryBounds)) ∨
    (∃ w, s.fault = none ∧ s.wait = none ∧ s.fetch = some w ∧ step s = exec (decodeWord w) s.prepared) := by
  cases hf : s.fault with
  | some r => exact .inl ⟨r, rfl, step_latched hf⟩
  | none =>
    cases hw : s.wait with
    | some x => exact .inr (.inl ⟨x, rfl, rfl, step_waiting hf hw⟩)
    | none =>
      cases hn : s.fetch with
      | none => exact .inr (.inr (.inl ⟨rfl, rfl, rfl, step_fetch_fault hf hw hn⟩))
      | some w => exact .inr (.inr (.inr ⟨w, rfl, rfl, rfl, step_runs hf hw hn⟩))

/-- The opcode at a `pc` inside memory (R62, R124). -/
theorem fetch_inside {s : State} (h : s.pc.toNat + 1 < Config.memSize) :
    s.fetch = some (joinBytes (s.mem.read s.pc.toNat) (s.mem.read (s.pc.toNat + 1))) := Memory.readWord_inside h

/-- No opcode at a `pc` above 4094 (R124). -/
theorem fetch_outside {s : State} (h : Config.memSize ≤ s.pc.toNat + 1) : s.fetch = none := Memory.readWord_outside h

end Sys2Proof.Machine
end

