-- ==== Sys2Proof/Laws/Draw.lean ====
section
/-! SUPPORT. What a draw does to each pixel and when it collides (spec/44_display.md R212 to R215): one lemma for a sprite
row, one for a sprite. -/

namespace Sys2Proof.Machine

/-- Two columns of one sprite row never share a pixel. -/
theorem spriteX_inj {v : Byte} {a b : Nat} (ha : a < 8) (hb : b < 8) (h : spriteX v a = spriteX v b) : a = b := by
  simp only [spriteX, Fin.mk.injEq] at h
  omega

/-- Two rows of one sprite never share a pixel. -/
theorem spriteY_inj {v : Byte} {a b : Nat} (ha : a < 16) (hb : b < 16) (h : spriteY v a = spriteY v b) : a = b := by
  simp only [spriteY, Fin.mk.injEq] at h
  omega

/-- The first `n` columns of a sprite row light this pixel. -/
def ColsLight (b vx : Byte) (y : Fin 32) (n : Nat) (px : Fin 64) (py : Fin 32) : Prop :=
  py = y ∧ ∃ c, c < n ∧ px = spriteX vx c ∧ spriteBit b c = true

/-- A sprite row flips the pixels it lights and no other, and collides exactly when one of them was lit. -/
theorem drawCols_spec (b vx : Byte) (y : Fin 32) (d : DrawAcc) :
    ∀ n, n ≤ 8 →
      (∀ px py, (ColsLight b vx y n px py → (drawCols b vx y d n).1.pixel px py = !d.1.pixel px py) ∧
        (¬ ColsLight b vx y n px py → (drawCols b vx y d n).1.pixel px py = d.1.pixel px py)) ∧
      ((drawCols b vx y d n).2 = true ↔ d.2 = true ∨ ∃ px py, ColsLight b vx y n px py ∧ d.1.pixel px py = true)
  | 0, _ => by
    have h0 : ∀ px py, ¬ ColsLight b vx y 0 px py := by rintro px py ⟨-, c, hc, -⟩; omega
    exact ⟨fun px py => ⟨fun h => absurd h (h0 px py), fun _ => rfl⟩,
      ⟨.inl, fun h => h.elim id fun ⟨px, py, hl, _⟩ => absurd hl (h0 px py)⟩⟩
  | n + 1, hn => by
    obtain ⟨ih, ihh⟩ := drawCols_spec b vx y d n (by omega)
    have hfresh : ¬ ColsLight b vx y n (spriteX vx n) y := by
      rintro ⟨-, c, hc, he, -⟩
      have := spriteX_inj (by omega) (by omega) he
      omega
    have hsucc : ∀ px py, ColsLight b vx y (n + 1) px py ↔
        ColsLight b vx y n px py ∨ (px = spriteX vx n ∧ py = y ∧ spriteBit b n = true) := by
      intro px py
      constructor
      · rintro ⟨hy, c, hc, hx, hb⟩
        rcases Nat.lt_succ_iff_lt_or_eq.mp hc with h | rfl
        · exact .inl ⟨hy, c, h, hx, hb⟩
        · exact .inr ⟨hx, hy, hb⟩
      · rintro (⟨hy, c, hc, hx, hb⟩ | ⟨hx, hy, hb⟩)
        · exact ⟨hy, c, by omega, hx, hb⟩
        · exact ⟨hy, n, by omega, hx, hb⟩
    have hold := (ih (spriteX vx n) y).2 hfresh
    refine ⟨fun px py => ?_, ?_⟩
    · rw [drawCols, drawPixel_pixel, hsucc]
      by_cases hxy : px = spriteX vx n ∧ py = y
      · obtain ⟨rfl, rfl⟩ := hxy
        cases hb : spriteBit b n <;> simp_all
      · rw [if_neg hxy]
        exact ⟨fun h => (ih px py).1 (h.resolve_right fun h => hxy ⟨h.1, h.2.1⟩),
          fun h => (ih px py).2 fun hl => h (.inl hl)⟩
    · rw [drawCols, drawPixel_hit, Bool.or_eq_true, ihh, Bool.and_eq_true, hold]
      constructor
      · rintro ((h | ⟨px, py, hl, hp⟩) | ⟨hb, hp⟩)
        · exact .inl h
        · exact .inr ⟨px, py, (hsucc px py).2 (.inl hl), hp⟩
        · exact .inr ⟨_, _, (hsucc _ _).2 (.inr ⟨rfl, rfl, hb⟩), hp⟩
      · rintro (h | ⟨px, py, hl, hp⟩)
        · exact .inl (.inl h)
        · rcases (hsucc px py).1 hl with hl | ⟨rfl, rfl, hb⟩
          · exact .inl (.inr ⟨px, py, hl, hp⟩)
          · exact .inr ⟨hb, hp⟩

/-- The first `n` rows of a sprite light this pixel. -/
def RowsLight (m : Memory) (a : Nat) (vx vy : Byte) (n : Nat) (px : Fin 64) (py : Fin 32) : Prop :=
  ∃ r, r < n ∧ ColsLight (m.read (a + r)) vx (spriteY vy r) 8 px py

/-- A sprite flips the pixels it lights and no other, and collides exactly when one of them was lit before the draw. -/
theorem drawRows_spec (m : Memory) (a : Nat) (vx vy : Byte) (d : DrawAcc) :
    ∀ n, n ≤ 16 →
      (∀ px py, (RowsLight m a vx vy n px py → (drawRows m a vx vy d n).1.pixel px py = !d.1.pixel px py) ∧
        (¬ RowsLight m a vx vy n px py → (drawRows m a vx vy d n).1.pixel px py = d.1.pixel px py)) ∧
      ((drawRows m a vx vy d n).2 = true ↔
        d.2 = true ∨ ∃ px py, RowsLight m a vx vy n px py ∧ d.1.pixel px py = true)
  | 0, _ => by
    have h0 : ∀ px py, ¬ RowsLight m a vx vy 0 px py := by rintro px py ⟨r, hr, -⟩; omega
    exact ⟨fun px py => ⟨fun h => absurd h (h0 px py), fun _ => rfl⟩,
      ⟨.inl, fun h => h.elim id fun ⟨px, py, hl, _⟩ => absurd hl (h0 px py)⟩⟩
  | n + 1, hn => by
    obtain ⟨ih, ihh⟩ := drawRows_spec m a vx vy d n (by omega)
    obtain ⟨hc, hch⟩ := drawCols_spec (m.read (a + n)) vx (spriteY vy n) (drawRows m a vx vy d n) 8 (by omega)
    have hfresh : ∀ px py, ColsLight (m.read (a + n)) vx (spriteY vy n) 8 px py → ¬ RowsLight m a vx vy n px py := by
      rintro px py ⟨hy, -⟩ ⟨r, hr, hy', -⟩
      have := spriteY_inj (by omega) (by omega) (hy'.symm.trans hy)
      omega
    have hsucc : ∀ px py, RowsLight m a vx vy (n + 1) px py ↔
        RowsLight m a vx vy n px py ∨ ColsLight (m.read (a + n)) vx (spriteY vy n) 8 px py := by
      intro px py
      constructor
      · rintro ⟨r, hr, hl⟩
        rcases Nat.lt_succ_iff_lt_or_eq.mp hr with h | rfl
        · exact .inl ⟨r, h, hl⟩
        · exact .inr hl
      · rintro (⟨r, hr, hl⟩ | hl)
        · exact ⟨r, by omega, hl⟩
        · exact ⟨n, by omega, hl⟩
    refine ⟨fun px py => ?_, ?_⟩
    · rw [drawRows, hsucc]
      by_cases hl : ColsLight (m.read (a + n)) vx (spriteY vy n) 8 px py
      · rw [(hc px py).1 hl, (ih px py).2 (hfresh px py hl)]
        exact ⟨fun _ => rfl, fun h => absurd (.inr hl) h⟩
      · rw [(hc px py).2 hl]
        exact ⟨fun h => (ih px py).1 (h.resolve_right hl), fun h => (ih px py).2 fun h' => h (.inl h')⟩
    · rw [drawRows, hch, ihh]
      constructor
      · rintro ((h | ⟨px, py, hl, hp⟩) | ⟨px, py, hl, hp⟩)
        · exact .inl h
        · exact .inr ⟨px, py, (hsucc px py).2 (.inl hl), hp⟩
        · exact .inr ⟨px, py, (hsucc px py).2 (.inr hl), by rw [← (ih px py).2 (hfresh px py hl)]; exact hp⟩
      · rintro (h | ⟨px, py, hl, hp⟩)
        · exact .inl (.inl h)
        · rcases (hsucc px py).1 hl with hl | hl
          · exact .inl (.inr ⟨px, py, hl, hp⟩)
          · exact .inr ⟨px, py, hl, by rw [(ih px py).2 (hfresh px py hl)]; exact hp⟩

end Sys2Proof.Machine
end

