-- ==== Sys2Proof/Laws/PerInstr.lean ====
section
/-! SUPPORT. The family of per-instruction statements: the word an instruction encodes to matches, under the mask of the
opcode table, the row the instruction is of (spec/30_encoding.md R96, R109). -/

namespace Sys2Proof.Laws

/-- Masking the two upper fields with the family nibble. -/
theorem upper_and_family (a b : BitVec 4) : (a ++ b) &&& (BitVec.allOnes 4 ++ 0x0#4) = a ++ 0x0#4 :=
  BitVec.and_append.trans (congrArg₂ (· ++ ·) BitVec.and_allOnes BitVec.and_zero)

/-- Masking an NNN word with the family nibble. -/
theorem formatNNN_and_family (op : Nibble) (nnn : Imm12) : formatNNN op nnn &&& 0xF000#16 = op ++ 0x000#12 := by
  have h : (0xF000#16 : Word) = BitVec.allOnes 4 ++ 0x000#12 := by decide
  rw [h]
  exact BitVec.and_append.trans (congrArg₂ (· ++ ·) BitVec.and_allOnes BitVec.and_zero)

/-- Masking an XKK word with the family nibble. -/
theorem formatXKK_and_family (op : Nibble) (x : RegNum) (kk : Byte) :
    formatXKK op x kk &&& 0xF000#16 = (op ++ 0x0#4) ++ 0x00#8 := by
  have h : (0xF000#16 : Word) = (BitVec.allOnes 4 ++ 0x0#4) ++ 0x00#8 := by decide
  rw [h]
  exact BitVec.and_append.trans (congrArg₂ (· ++ ·) (upper_and_family _ _) BitVec.and_zero)

/-- Masking an X word with the family nibble and the secondary byte. -/
theorem formatXKK_and_secondary (op : Nibble) (x : RegNum) (kk : Byte) :
    formatXKK op x kk &&& 0xF0FF#16 = (op ++ 0x0#4) ++ kk := by
  have h : (0xF0FF#16 : Word) = (BitVec.allOnes 4 ++ 0x0#4) ++ BitVec.allOnes 8 := by decide
  rw [h]
  exact BitVec.and_append.trans (congrArg₂ (· ++ ·) (upper_and_family _ _) BitVec.and_allOnes)

/-- Masking an XYN word with the family nibble. -/
theorem formatXYN_and_family (op : Nibble) (x y : RegNum) (n : Nibble) :
    formatXYN op x y n &&& 0xF000#16 = (op ++ 0x0#4) ++ (0x0#4 ++ 0x0#4) := by
  have h : (0xF000#16 : Word) = (BitVec.allOnes 4 ++ 0x0#4) ++ (0x0#4 ++ 0x0#4) := by decide
  rw [h]
  exact BitVec.and_append.trans (congrArg₂ (· ++ ·) (upper_and_family _ _)
    (BitVec.and_append.trans (congrArg₂ (· ++ ·) BitVec.and_zero BitVec.and_zero)))

/-- Masking an XY word with the family nibble and the secondary nibble. -/
theorem formatXYN_and_secondary (op : Nibble) (x y : RegNum) (n : Nibble) :
    formatXYN op x y n &&& 0xF00F#16 = (op ++ 0x0#4) ++ (0x0#4 ++ n) := by
  have h : (0xF00F#16 : Word) = (BitVec.allOnes 4 ++ 0x0#4) ++ (0x0#4 ++ BitVec.allOnes 4) := by decide
  rw [h]
  exact BitVec.and_append.trans (congrArg₂ (· ++ ·) (upper_and_family _ _)
    (BitVec.and_append.trans (congrArg₂ (· ++ ·) BitVec.and_zero BitVec.and_allOnes)))

/-- The instruction's word matches the opcode-table row of its pattern. -/
def TableRow.Statement (i : Instr) : Prop :=
  ∃ r ∈ opcodeTable, r.pattern = i.pattern ∧ encode i &&& r.mask = r.matchBits

theorem TableRow.halt : TableRow.Statement (.halt) :=
  ⟨⟨"0000", 0x0000, 0xFFFF⟩, by decide, rfl, by decide⟩

theorem TableRow.cls : TableRow.Statement (.cls) :=
  ⟨⟨"00E0", 0x00E0, 0xFFFF⟩, by decide, rfl, by decide⟩

theorem TableRow.ret : TableRow.Statement (.ret) :=
  ⟨⟨"00EE", 0x00EE, 0xFFFF⟩, by decide, rfl, by decide⟩

theorem TableRow.jp (nnn : Imm12) : TableRow.Statement (.jp nnn) :=
  ⟨⟨"1NNN", 0x1000, 0xF000⟩, by decide, rfl, ((formatNNN_and_family _ _).trans (by decide))⟩

theorem TableRow.call (nnn : Imm12) : TableRow.Statement (.call nnn) :=
  ⟨⟨"2NNN", 0x2000, 0xF000⟩, by decide, rfl, ((formatNNN_and_family _ _).trans (by decide))⟩

theorem TableRow.seImm (x : RegNum) (kk : Byte) : TableRow.Statement (.seImm x kk) :=
  ⟨⟨"3XKK", 0x3000, 0xF000⟩, by decide, rfl, ((formatXKK_and_family _ _ _).trans (by decide))⟩

theorem TableRow.sneImm (x : RegNum) (kk : Byte) : TableRow.Statement (.sneImm x kk) :=
  ⟨⟨"4XKK", 0x4000, 0xF000⟩, by decide, rfl, ((formatXKK_and_family _ _ _).trans (by decide))⟩

theorem TableRow.seReg (x y : RegNum) (n : Nibble) : TableRow.Statement (.seReg x y n) :=
  ⟨⟨"5XY0", 0x5000, 0xF000⟩, by decide, rfl, ((formatXYN_and_family _ _ _ _).trans (by decide))⟩

theorem TableRow.ldImm (x : RegNum) (kk : Byte) : TableRow.Statement (.ldImm x kk) :=
  ⟨⟨"6XKK", 0x6000, 0xF000⟩, by decide, rfl, ((formatXKK_and_family _ _ _).trans (by decide))⟩

theorem TableRow.addImm (x : RegNum) (kk : Byte) : TableRow.Statement (.addImm x kk) :=
  ⟨⟨"7XKK", 0x7000, 0xF000⟩, by decide, rfl, ((formatXKK_and_family _ _ _).trans (by decide))⟩

theorem TableRow.ldReg (x y : RegNum) : TableRow.Statement (.ldReg x y) :=
  ⟨⟨"8XY0", 0x8000, 0xF00F⟩, by decide, rfl, ((formatXYN_and_secondary _ _ _ _).trans (by decide))⟩

theorem TableRow.orReg (x y : RegNum) : TableRow.Statement (.orReg x y) :=
  ⟨⟨"8XY1", 0x8001, 0xF00F⟩, by decide, rfl, ((formatXYN_and_secondary _ _ _ _).trans (by decide))⟩

theorem TableRow.andReg (x y : RegNum) : TableRow.Statement (.andReg x y) :=
  ⟨⟨"8XY2", 0x8002, 0xF00F⟩, by decide, rfl, ((formatXYN_and_secondary _ _ _ _).trans (by decide))⟩

theorem TableRow.xorReg (x y : RegNum) : TableRow.Statement (.xorReg x y) :=
  ⟨⟨"8XY3", 0x8003, 0xF00F⟩, by decide, rfl, ((formatXYN_and_secondary _ _ _ _).trans (by decide))⟩

theorem TableRow.addReg (x y : RegNum) : TableRow.Statement (.addReg x y) :=
  ⟨⟨"8XY4", 0x8004, 0xF00F⟩, by decide, rfl, ((formatXYN_and_secondary _ _ _ _).trans (by decide))⟩

theorem TableRow.subReg (x y : RegNum) : TableRow.Statement (.subReg x y) :=
  ⟨⟨"8XY5", 0x8005, 0xF00F⟩, by decide, rfl, ((formatXYN_and_secondary _ _ _ _).trans (by decide))⟩

theorem TableRow.shr (x y : RegNum) : TableRow.Statement (.shr x y) :=
  ⟨⟨"8XY6", 0x8006, 0xF00F⟩, by decide, rfl, ((formatXYN_and_secondary _ _ _ _).trans (by decide))⟩

theorem TableRow.subnReg (x y : RegNum) : TableRow.Statement (.subnReg x y) :=
  ⟨⟨"8XY7", 0x8007, 0xF00F⟩, by decide, rfl, ((formatXYN_and_secondary _ _ _ _).trans (by decide))⟩

theorem TableRow.shl (x y : RegNum) : TableRow.Statement (.shl x y) :=
  ⟨⟨"8XYE", 0x800E, 0xF00F⟩, by decide, rfl, ((formatXYN_and_secondary _ _ _ _).trans (by decide))⟩

theorem TableRow.sneReg (x y : RegNum) (n : Nibble) : TableRow.Statement (.sneReg x y n) :=
  ⟨⟨"9XY0", 0x9000, 0xF000⟩, by decide, rfl, ((formatXYN_and_family _ _ _ _).trans (by decide))⟩

theorem TableRow.ldI (nnn : Imm12) : TableRow.Statement (.ldI nnn) :=
  ⟨⟨"ANNN", 0xA000, 0xF000⟩, by decide, rfl, ((formatNNN_and_family _ _).trans (by decide))⟩

theorem TableRow.jpV0 (nnn : Imm12) : TableRow.Statement (.jpV0 nnn) :=
  ⟨⟨"BNNN", 0xB000, 0xF000⟩, by decide, rfl, ((formatNNN_and_family _ _).trans (by decide))⟩

theorem TableRow.rnd (x : RegNum) (kk : Byte) : TableRow.Statement (.rnd x kk) :=
  ⟨⟨"CXKK", 0xC000, 0xF000⟩, by decide, rfl, ((formatXKK_and_family _ _ _).trans (by decide))⟩

theorem TableRow.drw (x y : RegNum) (n : Nibble) : TableRow.Statement (.drw x y n) :=
  ⟨⟨"DXYN", 0xD000, 0xF000⟩, by decide, rfl, ((formatXYN_and_family _ _ _ _).trans (by decide))⟩

theorem TableRow.skp (x : RegNum) : TableRow.Statement (.skp x) :=
  ⟨⟨"EX9E", 0xE09E, 0xF0FF⟩, by decide, rfl, ((formatXKK_and_secondary _ _ _).trans (by decide))⟩

theorem TableRow.sknp (x : RegNum) : TableRow.Statement (.sknp x) :=
  ⟨⟨"EXA1", 0xE0A1, 0xF0FF⟩, by decide, rfl, ((formatXKK_and_secondary _ _ _).trans (by decide))⟩

theorem TableRow.ldVxDt (x : RegNum) : TableRow.Statement (.ldVxDt x) :=
  ⟨⟨"FX07", 0xF007, 0xF0FF⟩, by decide, rfl, ((formatXKK_and_secondary _ _ _).trans (by decide))⟩

theorem TableRow.ldVxKey (x : RegNum) : TableRow.Statement (.ldVxKey x) :=
  ⟨⟨"FX0A", 0xF00A, 0xF0FF⟩, by decide, rfl, ((formatXKK_and_secondary _ _ _).trans (by decide))⟩

theorem TableRow.ldDtVx (x : RegNum) : TableRow.Statement (.ldDtVx x) :=
  ⟨⟨"FX15", 0xF015, 0xF0FF⟩, by decide, rfl, ((formatXKK_and_secondary _ _ _).trans (by decide))⟩

theorem TableRow.ldStVx (x : RegNum) : TableRow.Statement (.ldStVx x) :=
  ⟨⟨"FX18", 0xF018, 0xF0FF⟩, by decide, rfl, ((formatXKK_and_secondary _ _ _).trans (by decide))⟩

theorem TableRow.addI (x : RegNum) : TableRow.Statement (.addI x) :=
  ⟨⟨"FX1E", 0xF01E, 0xF0FF⟩, by decide, rfl, ((formatXKK_and_secondary _ _ _).trans (by decide))⟩

theorem TableRow.ldFont (x : RegNum) : TableRow.Statement (.ldFont x) :=
  ⟨⟨"FX29", 0xF029, 0xF0FF⟩, by decide, rfl, ((formatXKK_and_secondary _ _ _).trans (by decide))⟩

theorem TableRow.ldBcd (x : RegNum) : TableRow.Statement (.ldBcd x) :=
  ⟨⟨"FX33", 0xF033, 0xF0FF⟩, by decide, rfl, ((formatXKK_and_secondary _ _ _).trans (by decide))⟩

theorem TableRow.storeRegs (x : RegNum) : TableRow.Statement (.storeRegs x) :=
  ⟨⟨"FX55", 0xF055, 0xF0FF⟩, by decide, rfl, ((formatXKK_and_secondary _ _ _).trans (by decide))⟩

theorem TableRow.loadRegs (x : RegNum) : TableRow.Statement (.loadRegs x) :=
  ⟨⟨"FX65", 0xF065, 0xF0FF⟩, by decide, rfl, ((formatXKK_and_secondary _ _ _).trans (by decide))⟩

theorem TableRow.unk0 (nnn : Imm12) : TableRow.Statement (.unk0 nnn) :=
  ⟨⟨"0NNN", 0x0000, 0xF000⟩, by decide, rfl, ((formatNNN_and_family _ _).trans (by decide))⟩

theorem TableRow.unk8 (x y : RegNum) (n : Nibble) : TableRow.Statement (.unk8 x y n) :=
  ⟨⟨"8XYN", 0x8000, 0xF000⟩, by decide, rfl, ((formatXYN_and_family _ _ _ _).trans (by decide))⟩

theorem TableRow.unkE (x : RegNum) (kk : Byte) : TableRow.Statement (.unkE x kk) :=
  ⟨⟨"EXKK", 0xE000, 0xF000⟩, by decide, rfl, ((formatXKK_and_family _ _ _).trans (by decide))⟩

theorem TableRow.unkF (x : RegNum) (kk : Byte) : TableRow.Statement (.unkF x kk) :=
  ⟨⟨"FXKK", 0xF000, 0xF000⟩, by decide, rfl, ((formatXKK_and_family _ _ _).trans (by decide))⟩

end Sys2Proof.Laws
end

