-- ==== Sys2Proof/Tests/Slice0.lean ====
section
/-! SUPPORT. The model's own tests: the well-formedness smoke test, the decoding of every constructor from a word written
out from spec/30_encoding.md R96, execution tests taken from spec/95_test_vectors.md (the id stands in each comment), and a
witness for the hypotheses of every statement that has some. -/

open Sys2Proof Sys2Proof.Machine

namespace Sys2Proof.Tests

/-! ### Helpers -/

/-- Run one property over the state a result leads to. -/
def leads (r : Result) (p : State → Bool) : Bool :=
  match r with
  | .next t => p t
  | .fault _ => false
  | .refused _ => false

/-- The reset machine with one word at 0x200 and idle scripted inputs: the start of most vectors. -/
def at200 (w : Word) : State := { (State.reset.placeWord w) with pending := [.idle, .idle] }

/-- The same with V1 = a and V2 = b. -/
def at200V (w : Word) (a b : Byte) : State := ((at200 w).writeV 1 a).writeV 2 b

/-- The same with VF = 0x77: the start of the ALU vectors. -/
def aluStart (w : Word) (a b : Byte) : State := (at200V w a b).writeV VF 0x77

/-- One step leaves V1, V2, VF as given and pc at 0x202. -/
def aluEnds (w : Word) (a b v1 v2 vf : Byte) : Bool :=
  leads (step (aluStart w a b)) fun t =>
    t.readV 1 == v1 && t.readV 2 == v2 && t.readV VF == vf && t.pc == 0x202 && t.out == .quiet

/-- One step from a state leaves pc at an address, with `Continue`. -/
def goes (s : State) (pc : Word) : Bool := leads (step s) fun t => t.pc == pc && t.out == .quiet

/-- One step from a state raises a fault: latch and outcome hold it, pc is where it was. -/
def raises (s : State) (r : Fault) : Bool :=
  leads (step s) fun t => t.fault == some r && t.out.outcome == .faulted r && t.pc == s.pc

/-! ### Well-formedness: each check refuses an ill-formed term -/

theorem test_wf_refuses_family0 : (Instr.unk0 0x0EE).wf = false ∧ (Instr.unk0 0x000).wf = false ∧
    (Instr.unk0 0x0E0).wf = false := by decide
theorem test_wf_refuses_family8 : (Instr.unk8 1 2 0x4).wf = false ∧ (Instr.unk8 0 0 0xE).wf = false := by decide
theorem test_wf_refuses_familyE : (Instr.unkE 3 0x9E).wf = false ∧ (Instr.unkE 3 0xA1).wf = false := by decide
theorem test_wf_refuses_familyF : (Instr.unkF 3 0x0A).wf = false ∧ (Instr.unkF 0 0x65).wf = false := by decide
theorem test_wf_accepts : (Instr.unk0 0x0E1).wf = true ∧ (Instr.unk8 1 2 0x8).wf = true ∧
    (Instr.unkE 3 0xA0).wf = true ∧ (Instr.unkF 3 0x30).wf = true ∧ (Instr.drw 0 0 0).wf = true := by decide

/-! ### Decoding: words written out from R96, and the encoder on the same instructions -/

/-- A word decodes to an instruction and the instruction encodes to the word. -/
def spells (w : Nat) (i : Instr) : Bool := decodeTableWord 16 w == some i && (encode i).toNat == w

theorem test_decode_fixed : spells 0x0000 .halt && spells 0x00E0 .cls && spells 0x00EE .ret := by decide
theorem test_decode_nnn : spells 0x1ABC (.jp 0xABC) && spells 0x2345 (.call 0x345) && spells 0xA2F0 (.ldI 0x2F0) &&
    spells 0xBFFF (.jpV0 0xFFF) := by decide
theorem test_decode_xkk : spells 0x3142 (.seImm 1 0x42) && spells 0x4F80 (.sneImm 15 0x80) &&
    spells 0x63AB (.ldImm 3 0xAB) && spells 0x7301 (.addImm 3 1) && spells 0xC40F (.rnd 4 0xF) := by decide
theorem test_decode_xyn : spells 0x5127 (.seReg 1 2 7) && spells 0x912F (.sneReg 1 2 15) &&
    spells 0xD12F (.drw 1 2 15) := by decide
theorem test_decode_family8_low : spells 0x8AB0 (.ldReg 10 11) && spells 0x8AB1 (.orReg 10 11) &&
    spells 0x8AB2 (.andReg 10 11) && spells 0x8AB3 (.xorReg 10 11) && spells 0x8AB4 (.addReg 10 11) := by decide
theorem test_decode_family8_high : spells 0x8AB5 (.subReg 10 11) && spells 0x8AB6 (.shr 10 11) &&
    spells 0x8AB7 (.subnReg 10 11) && spells 0x8ABE (.shl 10 11) := by decide
theorem test_decode_familyE : spells 0xE59E (.skp 5) && spells 0xE5A1 (.sknp 5) := by decide
theorem test_decode_familyF_low : spells 0xF207 (.ldVxDt 2) && spells 0xF30A (.ldVxKey 3) &&
    spells 0xF115 (.ldDtVx 1) && spells 0xF118 (.ldStVx 1) && spells 0xF11E (.addI 1) := by decide
theorem test_decode_familyF_high : spells 0xF229 (.ldFont 2) && spells 0xF533 (.ldBcd 5) &&
    spells 0xF355 (.storeRegs 3) && spells 0xF465 (.loadRegs 4) := by decide
/-- The unknown words of R97 to R100 and of vector section 2.8. -/
theorem test_decode_unknown : spells 0x0001 (.unk0 0x001) && spells 0x01EE (.unk0 0x1EE) && spells 0x00E1 (.unk0 0x0E1) &&
    spells 0x8128 (.unk8 1 2 8) && spells 0x812F (.unk8 1 2 15) && spells 0xE19F (.unkE 1 0x9F) &&
    spells 0xF130 (.unkF 1 0x30) && spells 0xFFFF (.unkF 15 0xFF) := by decide
/-- R91: the first byte is the high one; fewer than two bytes are no instruction. -/
theorem test_decode_bytes : decode [0xA2, 0xF0, 0x99] = .ok (.ldI 0x2F0, [0x99]) ∧ decode [0xA2] = .error .truncated ∧
    decode [] = .error .truncated := by decide

/-! ### Control flow (vectors V-CF) -/

/-- V-CF-1, V-CF-16, V-CF-17. -/
theorem test_jumps : goes (at200 0x1ABC) 0xABC && goes ((at200 0xB300).writeV 0 4) 0x304 &&
    goes (((at200 0xB300).writeV 0 1).writeV 3 0xEE) 0x301 := by decide
/-- V-CF-18: the jump lands above memory, the next fetch faults. -/
theorem test_jpV0_leaves_memory : leads (step ((at200 0xBFFF).writeV 0 0xFF)) (fun t =>
    t.pc == 0x10FE && t.out == .quiet && raises t .memoryBounds) := by decide
/-- V-CF-3: the fetch at 0xFFF needs 0x1000; the timer advance of the faulting step is kept. -/
theorem test_fetch_top : leads (step { at200 0x1FFF with pending := [.idle, ⟨20, 0, none, 0⟩] }) (fun t =>
    t.pc == 0xFFF && raises t .memoryBounds && leads (step t) (fun u => u.acc3.val == 10)) := by decide
/-- V-CF-5, V-CF-6. -/
theorem test_call : leads (step (at200 0x2345)) (fun t => t.stack[0] == 0x202 && t.sp == 1 && t.pc == 0x345) &&
    leads (step { at200 0x2345 with sp := 15 }) (fun t => t.stack[15] == 0x202 && t.sp == 16 && t.pc == 0x345) := by
  decide
/-- V-CF-7. -/
theorem test_call_overflow : raises { at200 0x2345 with sp := 16 } .stackOverflow &&
    leads (step { at200 0x2345 with sp := 16 }) (fun t => t.sp == 16 && t.stack == State.reset.stack) := by decide
/-- V-CF-8. -/
theorem test_ret : leads (step { at200 0x00EE with sp := 2, stack := ((State.reset.stack.set 0 0x300).set 1 0x456) })
    (fun t => t.pc == 0x456 && t.sp == 1 && t.stack[1] == 0x456) := by decide
/-- V-CF-9. -/
theorem test_ret_underflow : raises (at200 0x00EE) .stackUnderflow := by decide
/-- V-CF-10, V-CF-11. -/
theorem test_skip_imm : goes (at200V 0x3142 0x42 0) 0x204 && goes (at200V 0x3142 0x43 0) 0x202 &&
    goes (at200V 0x4142 0x42 0) 0x202 && goes (at200V 0x4142 0x43 0) 0x204 := by decide
/-- V-CF-12, V-CF-13, V-CF-15: the low nibble does not count. -/
theorem test_skip_reg : goes (at200V 0x5127 5 5) 0x204 && goes (at200V 0x5120 5 6) 0x202 &&
    goes (at200V 0x9120 5 5) 0x202 && goes (at200V 0x912F 5 6) 0x204 := by decide

/-! ### Registers (vectors V-ALU, V-VF, V-IMM, V-RND) -/

/-- V-ALU-1 to V-ALU-4. -/
theorem test_copy_logic : aluEnds 0x8120 0x11 0x22 0x22 0x22 0x77 && aluEnds 0x8121 0x0F 0xF0 0xFF 0xF0 0x77 &&
    aluEnds 0x8122 0x3C 0x0F 0x0C 0x0F 0x77 && aluEnds 0x8123 0xFF 0x0F 0xF0 0x0F 0x77 := by decide
/-- V-ALU-6 to V-ALU-8. -/
theorem test_add : aluEnds 0x8124 0xC8 0x64 0x2C 0x64 1 && aluEnds 0x8124 0xFF 0x01 0x00 0x01 1 &&
    aluEnds 0x8124 0xFF 0x00 0xFF 0x00 0 := by decide
/-- V-ALU-11 to V-ALU-13. -/
theorem test_sub : aluEnds 0x8125 0x0A 0x03 0x07 0x03 1 && aluEnds 0x8125 0x03 0x0A 0xF9 0x0A 0 &&
    aluEnds 0x8125 0x07 0x07 0x00 0x07 0 := by decide
/-- V-ALU-16 to V-ALU-18. -/
theorem test_subn : aluEnds 0x8127 0x03 0x0A 0x07 0x0A 1 && aluEnds 0x8127 0x0A 0x03 0xF9 0x03 0 &&
    aluEnds 0x8127 0x07 0x07 0x00 0x07 0 := by decide
/-- V-ALU-19, V-ALU-20, V-ALU-23, V-ALU-24. -/
theorem test_shifts : aluEnds 0x8126 0x05 0x99 0x02 0x99 1 && aluEnds 0x8126 0xFE 0x00 0x7F 0x00 0 &&
    aluEnds 0x812E 0x81 0x99 0x02 0x99 1 && aluEnds 0x812E 0x40 0x00 0x80 0x00 0 := by decide
/-- V-VF-1, V-VF-3, V-VF-5 to V-VF-7: with X = 15 the flag is what VF holds. -/
theorem test_vf_destination : leads (step (((at200 0x8F14).writeV VF 0xF0).writeV 1 0x20)) (fun t => t.readV VF == 1) &&
    leads (step (((at200 0x8F15).writeV VF 5).writeV 1 3)) (fun t => t.readV VF == 1) &&
    leads (step ((at200 0x8F16).writeV VF 3)) (fun t => t.readV VF == 1) &&
    leads (step ((at200 0x8F1E).writeV VF 0x80)) (fun t => t.readV VF == 1) &&
    leads (step (((at200 0x8F17).writeV VF 3).writeV 1 5)) (fun t => t.readV VF == 1) := by decide
/-- V-VF-8, V-VF-9: VF as an operand is read before the flag is written. -/
theorem test_vf_operand : leads (step (((at200 0x81F4).writeV VF 0xF0).writeV 1 0x20)) (fun t =>
      t.readV VF == 1 && t.readV 1 == 0x10) &&
    leads (step ((at200 0x8FF4).writeV VF 0x90)) (fun t => t.readV VF == 1) := by decide
/-- V-IMM-1 to V-IMM-3. -/
theorem test_immediates : leads (step (at200 0x63AB)) (fun t => t.readV 3 == 0xAB) &&
    leads (step (at200 0x6F01)) (fun t => t.readV VF == 1) &&
    leads (step (((at200 0x7301).writeV 3 0xFF).writeV VF 9)) (fun t => t.readV 3 == 0 && t.readV VF == 9) := by
  decide
/-- V-RND-1, V-RND-2. -/
theorem test_rnd : leads (step { at200 0xC40F with pending := [⟨0, 0, none, 0xA7⟩] }) (fun t => t.readV 4 == 0x07) &&
    leads (step { at200 0xC4FF with pending := [⟨0, 0, none, 0x5C⟩] }) (fun t => t.readV 4 == 0x5C) := by decide

/-! ### Index register and memory (vectors V-IDX, V-BCD, V-ST, V-LD) -/

/-- V-IDX-1, V-IDX-2, V-IDX-4. -/
theorem test_index : leads (step (at200 0xAFFF)) (fun t => t.I == 0xFFF) &&
    leads (step (((at200V 0xF11E 1 0).writeI 0xFFF).writeV VF 7)) (fun t => t.I == 0x1000 && t.readV VF == 7) &&
    leads (step ((at200V 0xF11E 2 0).writeI 0xFFFF)) (fun t => t.I == 1) := by decide
/-- V-IDX-5, V-IDX-6. -/
theorem test_font_address : leads (step (at200V 0xF229 0 9)) (fun t => t.I == 0x2D) &&
    leads (step (at200V 0xF229 0 0x1A)) (fun t => t.I == 0x32) := by decide
/-- V-BCD-1, V-BCD-2. -/
theorem test_bcd : leads (step (((at200 0xF533).writeI 0x300).writeV 5 234)) (fun t =>
      t.mem.read 0x300 == 2 && t.mem.read 0x301 == 3 && t.mem.read 0x302 == 4 && t.I == 0x300) &&
    leads (step (((at200 0xF533).writeI 0xFFD).writeV 5 123)) (fun t =>
      t.mem.read 0xFFD == 1 && t.mem.read 0xFFE == 2 && t.mem.read 0xFFF == 3) := by decide
/-- V-BCD-3: nothing is stored. -/
theorem test_bcd_fault : raises (((at200 0xF533).writeI 0xFFE).writeV 5 123) .memoryBounds &&
    leads (step (((at200 0xF533).writeI 0xFFE).writeV 5 123)) (fun t => t.mem == (at200 0xF533).mem) := by decide
/-- V-ST-1, V-ST-5. -/
theorem test_store : leads (step ((((at200V 0xF355 0x11 0x12).writeV 0 0x10).writeV 3 0x13).writeI 0x400)) (fun t =>
      t.mem.read 0x400 == 0x10 && t.mem.read 0x403 == 0x13 && t.mem.read 0x404 == 0 && t.I == 0x400) &&
    leads (step (((at200 0xF055).writeV 0 0x5A).writeI 0xFFF)) (fun t => t.mem.read 0xFFF == 0x5A) := by decide
/-- V-ST-4, V-ST-5. -/
theorem test_store_fault : raises ((at200 0xFF55).writeI 0xFF1) .memoryBounds &&
    raises ((at200 0xF055).writeI 0x1000) .memoryBounds := by decide
/-- V-LD-1 (the default font), V-LD-4. -/
theorem test_load : leads (step ((at200 0xF465).writeV 5 0x99)) (fun t =>
      t.readV 0 == 0xF0 && t.readV 1 == 0x90 && t.readV 4 == 0xF0 && t.readV 5 == 0x99) &&
    leads (step ((at200 0xF165).writeI 0x200)) (fun t => t.readV 0 == 0xF1 && t.readV 1 == 0x65) := by decide
/-- V-LD-3: nothing is loaded. -/
theorem test_load_fault : raises ((at200V 0xF265 7 0x99).writeI 0xFFE) .memoryBounds &&
    leads (step ((at200V 0xF265 7 0x99).writeI 0xFFE)) (fun t => t.readV 1 == 7 && t.readV 2 == 0x99) := by decide

/-! ### Display (vectors V-DRW, V-CLS) -/

/-- V-DRW-3: each pixel wraps by itself. -/
theorem test_draw_wraps : leads (step (((at200V 0xD121 62 31).withMem ((at200 0xD121).mem.write 0x300 0xA5)).writeI 0x300))
    (fun t => t.fb == Framebuffer.blank.set 31 0x4000000000000029 && t.readV VF == 0) := by decide +kernel
/-- V-DRW-7: one pixel erased is a collision. -/
theorem test_draw_collides : leads (step ((((at200 0xD121).withMem ((at200 0xD121).mem.write 0x300 0xF0)).writeI 0x300).withFb
      ((Framebuffer.blank.setPixel 3 0 true).setPixel 10 0 true)))
    (fun t => t.fb == Framebuffer.blank.set 0 0x407 && t.readV VF == 1) := by decide +kernel
/-- V-DRW-10: a sprite of no rows reads nothing and clears VF. -/
theorem test_draw_no_rows : leads (step (((at200 0xD120).writeI 0x1234).writeV VF 1)) (fun t =>
    t.readV VF == 0 && t.fb == Framebuffer.blank && t.pc == 0x202) := by decide
/-- V-DRW-12. -/
theorem test_draw_fault : raises ((at200 0xD123).writeI 0xFFE) .memoryBounds &&
    leads (step (((at200 0xD123).writeI 0xFFE).writeV VF 5)) (fun t => t.readV VF == 5) := by decide
/-- V-CLS-1. -/
theorem test_cls : leads (step (((at200 0x00E0).withFb (Framebuffer.blank.setPixel 63 31 true)).writeV VF 7)) (fun t =>
    t.fb == Framebuffer.blank && t.readV VF == 7 && t.pc == 0x202) := by decide

/-! ### Keypad (vectors V-KEY) -/

/-- The at200 machine with V1 and the key levels of the first step. -/
def keyStart (w : Word) (v1 : Byte) (keys : BitVec 16) : State :=
  { at200V w v1 0 with pending := [⟨0, keys, none, 0⟩] }

/-- V-KEY-1, V-KEY-3. -/
theorem test_skp : goes (keyStart 0xE19E 5 0x0020) 0x204 && goes (keyStart 0xE19E 5 0xFFDF) 0x202 &&
    goes (keyStart 0xE19E 0x15 0x0020) 0x204 := by decide
/-- V-KEY-2, V-KEY-4. -/
theorem test_sknp : goes (keyStart 0xE1A1 5 0x0020) 0x202 && goes (keyStart 0xE1A1 5 0) 0x204 &&
    goes (keyStart 0xE1A1 0xF5 0x0020) 0x202 := by decide
/-- V-KEY-6. -/
theorem test_key_at_once : leads (step { at200 0xF30A with pending := [⟨0, 0, some 7, 0⟩] }) (fun t =>
    t.readV 3 == 7 && t.pc == 0x202 && t.wait == none && t.out == ⟨.continued, true, false⟩) := by decide
/-- V-KEY-8: timers run while waiting. -/
theorem test_key_waits : leads (step { at200 0xF10A with DT := 10, ST := 3, pending := [⟨100, 0, none, 0⟩, ⟨100, 0, none, 0⟩] })
    (fun t => t.DT == 4 && t.ST == 0 && t.acc3 == 0 && t.pc == 0x200 && t.wait == some 1 &&
      leads (step t) (fun u => u.DT == 0 && u.wait == some 1)) := by decide

/-! ### Timers (vectors V-TMR) -/

/-- A machine at `1200` with both timers at 60 and the elapsed time of the first step. -/
def timerStart (e : Nat) : State := { at200 0x1200 with DT := 60, ST := 60, pending := [⟨e, 0, none, 0⟩] }

/-- V-TMR-3, V-TMR-4, V-TMR-9, V-TMR-10. -/
theorem test_ticks : leads (step (timerStart 16)) (fun t => t.DT == 60 && t.acc3.val == 48) &&
    leads (step (timerStart 17)) (fun t => t.DT == 59 && t.ST == 59 && t.acc3.val == 1) &&
    leads (step (timerStart 50)) (fun t => t.DT == 57 && t.acc3.val == 0) &&
    leads (step (timerStart 999)) (fun t => t.DT == 1 && t.ST == 1 && t.acc3.val == 47) := by decide
/-- V-TMR-14: no wrap at the largest 32-bit elapsed time. -/
theorem test_ticks_large : leads (step { timerStart 4294967295 with DT := 255, ST := 255 }) (fun t =>
    t.DT == 0 && t.ST == 0 && t.acc3.val == 35) := by decide
/-- V-TMR-15: a timer read sees this step's advance. -/
theorem test_read_timer : leads (step { at200 0xF207 with DT := 5, acc3 := 5, pending := [⟨17, 0, none, 0⟩] }) (fun t =>
    t.readV 2 == 4 && t.DT == 4 && t.acc3.val == 6) := by decide
/-- V-TMR-16, steps 1 and 2: a set timer is first lowered in a later step. -/
theorem test_set_timers : leads (step { at200V 0xF115 5 0 with pending := [⟨1000, 0, none, 0⟩] }) (fun t => t.DT == 5) &&
    leads (step (at200V 0xF118 5 0)) (fun t => t.ST == 5 && t.DT == 0) := by decide

/-! ### The sentinel, unknown codes, the latch, reset and load -/

/-- V-TMR-18, V-RST-1: an empty image halts, twice, in place, while the timers run. -/
theorem test_halt : leads (step { State.reset with DT := 10, pending := [⟨17, 0, none, 0⟩, ⟨17, 0, none, 0⟩] }) (fun t =>
    t.out == ⟨.halted, false, false⟩ && t.DT == 9 && t.acc3.val == 1 && t.pc == 0x200 &&
      leads (step t) (fun u => u.out.outcome == .halted && u.DT == 8 && u.acc3.val == 2)) := by decide
/-- Section 2.8. -/
theorem test_unknown : leads (step (at200 0x0001)) (fun t => t.pc == 0x202 && t.out == ⟨.continued, false, true⟩) &&
    leads (step (at200 0x8128)) (fun t => t.pc == 0x202 && t.out.unknownOp) &&
    leads (step (at200 0xE100)) (fun t => t.pc == 0x202 && t.out.unknownOp) &&
    leads (step (at200 0xF175)) (fun t => t.pc == 0x202 && t.out.unknownOp) := by decide
/-- V-TMR-17: phase 1 runs in the faulting step; the latched step moves nothing. -/
theorem test_latched : leads (step { at200 0x00EE with DT := 10, pending := [⟨17, 0, none, 0⟩, ⟨1000, 0, none, 0⟩] }) (fun t =>
    t.fault == some .stackUnderflow && t.DT == 9 && t.acc3.val == 1 &&
      leads (step t) (fun u => u.out.outcome == .faulted .stackUnderflow && u.DT == 9 && u.acc3.val == 1)) := by decide
/-- V-RST-2: one byte `12` at 0x200 makes the first opcode 0x1200. -/
theorem test_load_one_byte : ∃ s, construct defaultFont [0x12] = .ok s ∧ s.mem.read 0x200 = 0x12 ∧ s.mem.read 0x201 = 0 ∧
    goes { s with pending := [.idle] } 0x200 = true := ⟨_, rfl, by decide⟩
/-- V-ENC-7: an odd pc is legal. -/
theorem test_odd_pc : leads (step { (State.reset.setPc 0x201).placeWord 0x6007 with pending := [.idle] }) (fun t =>
    t.readV 0 == 7 && t.pc == 0x203) := by decide
/-- The host's two questions on one table word: it is decoded, and the next step after reset runs it. -/
theorem test_withFetchWord : leads (step { State.reset.withFetchWord 16 0x63AB with pending := [.idle] }) (fun t =>
    t.readV 3 == 0xAB && t.pc == 0x202) := by decide
/-- R45: bit 64·y + x of the snapshot. -/
theorem test_snapshot : ((State.reset.withFb (Framebuffer.blank.setPixel 3 2 true)).fbOut).toNat = 2 ^ 131 := by decide +kernel

/-! ### Witnesses: concrete inputs that meet the hypotheses of each statement, clause by clause -/

/-- A machine that waits for a key on an `FX0A`, register 3. -/
def waiting3 : State := { at200 0xF30A with wait := some 3 }

/-- The same machine, which will sample a key press. -/
def waitingKey (k : Key) : State := { waiting3 with pending := [⟨0, 0, some k, 0⟩] }

/-- A machine with an address in `I`. -/
def withI (a : Word) : State := State.reset.writeI a

/-- A machine with a number of return addresses held. -/
def withSp (n : Fin 17) : State := { State.reset with sp := n }

theorem witness_DecodeOfEncodeIsIdentity : (Instr.unk8 1 2 15).wf = true ∧ (Instr.drw 15 15 15).wf = true := by decide

theorem witness_ConstructionPlacesFontAndImage : (List.replicate 3584 (7 : Byte)).length ≤ 3584 ∧
    ([] : List Byte).length ≤ 3584 := ⟨List.length_replicate.le, Nat.zero_le _⟩

theorem witness_OversizedImageIsRejected : 3584 < (List.replicate 3585 (7 : Byte)).length ∧
    (List.replicate 3584 (7 : Byte)).length = 3584 :=
  ⟨by rw [List.length_replicate]; omega, List.length_replicate⟩

theorem witness_InvariantHoldsAfterConstruction : ∃ t, construct defaultFont [0x12, 0x00] = .ok t := ⟨_, rfl⟩

theorem witness_StepKeepsTheInvariant : waiting3.Inv ∧ ∃ t, step waiting3 = .next t := by
  refine ⟨⟨by decide, by decide, by decide, ?_⟩, _, rfl⟩
  intro x h
  have hx : (3 : RegNum) = x := by simpa [waiting3] using h
  subst hx
  decide

theorem witness_LatchedStepChangesNothing : (State.reset.raise .memoryBounds).fault = some .memoryBounds := rfl

theorem witness_StepRunsTheDecodedInstruction : (at200 0x63AB).fault = none ∧ (at200 0x63AB).wait = none ∧
    (at200 0x63AB).pc.toNat ≤ 4094 ∧
    decode [(at200 0x63AB).mem.read 0x200, (at200 0x63AB).mem.read 0x201] = .ok (.ldImm 3 0xAB, []) := by decide
/-- The highest pc at which a word can be fetched. -/
theorem witness_StepRunsTheDecodedInstruction_top : (State.reset.setPc 4094).pc.toNat ≤ 4094 ∧
    decode [(State.reset.setPc 4094).mem.read 4094, (State.reset.setPc 4094).mem.read 4095] = .ok (.halt, []) := by decide

/-- A step with inputs scripted, and one with none: the state right after reset. -/
theorem witness_PreparationSamplesAndAdvancesTimers : (timerStart 17).pending = ⟨17, 0, none, 0⟩ :: [] ∧
    State.reset.pending = [] := by decide

theorem witness_PlacedWordRunsNext : State.reset.mem.wf = true ∧ decodeTableWord 16 0xD12F = some (.drw 1 2 15) ∧
    State.reset.fault = none ∧ State.reset.wait = none ∧ State.reset.pc.toNat ≤ 4094 := by decide
/-- A machine in which the word must be placed elsewhere. -/
theorem witness_PlacedWordRunsNext_notReady : (State.reset.setPc 0xFFF).mem.wf = true ∧
    ¬ (State.reset.setPc 0xFFF).pc.toNat ≤ 4094 ∧ waiting3.mem.wf = true ∧ waiting3.wait ≠ none := by decide

theorem witness_FetchReadsBigEndianOrFaults : (State.reset.setPc 4094).fault = none ∧ (State.reset.setPc 4094).wait = none ∧
    (State.reset.setPc 4094).pc.toNat ≤ 4094 ∧ 4094 < (State.reset.setPc 4095).pc.toNat := by decide

/-- The event sampled is `none` in one waiting machine and key 15 in the other. -/
theorem witness_WaitingStepPollsForAKey : waiting3.fault = none ∧ waiting3.wait = some 3 ∧
    waiting3.prepared.inp.keyEvent = none ∧ (waitingKey 15).fault = none ∧ (waitingKey 15).wait = some 3 ∧
    (waitingKey 15).prepared.inp.keyEvent = some 15 := by decide
/-- A waiting machine with nothing scripted: it samples one of the two cases, whichever the free value is. -/
theorem witness_WaitingStepPollsForAKey_unscripted : ({ waiting3 with pending := [] } : State).fault = none ∧
    ({ waiting3 with pending := [] } : State).wait = some 3 ∧
    ({ waiting3 with pending := [] } : State).prepared.inp.keyEvent = Config.freeKeyEvent 0 := ⟨rfl, rfl, rfl⟩

theorem witness_FaultOutcomeMeansLatched : leads (step (at200 0x00EE)) (fun t => t.out.outcome == .faulted .stackUnderflow) &&
    leads (step (at200 0x00E0)) (fun t => t.out.outcome == .continued) := by decide

/-- The outcome is `Halted` in one machine and not in the other. -/
theorem witness_HaltedExactlyOnAZeroWord : leads (step (at200 0x0000)) (fun t => t.out.outcome == .halted) = true ∧
    leads (step (at200 0x0001)) (fun t => t.out.outcome != .halted) = true ∧
    (at200 0x0000).fault = none ∧
    (at200 0x0000).wait = none ∧ (at200 0x0000).pc.toNat ≤ 4094 ∧ (at200 0x0000).wordAt 0x200 = 0 := by decide

theorem witness_EveryUnlatchedStepAdvancesTheTimers : (∃ t, step (timerStart 17) = .next t) ∧ (timerStart 17).fault = none ∧
    (timerStart 17).elapsedNext = 17 ∧ (at200 0xF115).fetch.map decodeWord = some (.ldDtVx 1) ∧
    (at200 0xF118).fetch.map decodeWord = some (.ldStVx 1) := ⟨⟨_, rfl⟩, by decide⟩

theorem witness_SixtyTicksInAThousandMs : ([17, 0, 983] : List Nat).sum = 1000 ∧ ([1000] : List Nat).sum = 1000 := by decide

theorem witness_HaltStaysInPlace : ∃ t, step (at200 0x0000) = .next t ∧ t.out.outcome = .halted := ⟨_, rfl, rfl⟩

theorem witness_UnknownCodesAreNoOps : (Instr.unk0 0x001).isUnknown = true ∧ (Instr.unk8 1 2 8).isUnknown = true ∧
    (Instr.unkE 1 0).isUnknown = true ∧ (Instr.unkF 15 0xFF).isUnknown = true := by decide

theorem witness_CallPushesTheReturnAddress : (withSp 0).sp.val < 16 ∧ (withSp 15).sp.val < 16 := by decide
theorem witness_SeventeenthCallOverflows : (withSp 16).sp.val = 16 := rfl
theorem witness_ReturnPopsIntoPc : (withSp 1).sp.val = (0 : Fin 16).val + 1 ∧ (withSp 16).sp.val = (15 : Fin 16).val + 1 ∧
    (withSp 0).sp.val = 0 := by decide
theorem witness_ReturnUndoesCall : (withSp 15).sp.val < 16 := by decide

/-- The clause `x ≠ VF` of the five flag writers of family 8, and a register it leaves out. -/
theorem witness_FlagWriters : (14 : RegNum) ≠ VF ∧ (15 : RegNum) = VF := by decide

theorem witness_BcdStoresThreeDigits : (withI 4093).mem.wf = true ∧ (withI 4093).I.toNat ≤ 4093 ∧
    (withI 4094).mem.wf = true ∧ 4093 < (withI 4094).I.toNat := by decide
theorem witness_StoreWritesV0ToVx : (withI 4080).mem.wf = true ∧ (withI 4080).I.toNat + (15 : RegNum).val ≤ 4095 ∧
    (withI 4081).mem.wf = true ∧ 4095 < (withI 4081).I.toNat + (15 : RegNum).val := by decide
theorem witness_LoadReadsV0ToVx : (withI 4095).I.toNat + (0 : RegNum).val ≤ 4095 ∧
    4095 < (withI 4096).I.toNat + (0 : RegNum).val := by decide
theorem witness_LoadAfterStoreRestoresRegisters : (withI 4080).mem.wf = true ∧
    (withI 4080).I.toNat + (15 : RegNum).val ≤ 4095 := by decide
/-- The last pc at which a stored word can be run. -/
theorem witness_StoreOverCodeIsFetchedNext : ((withI 4094).setPc 4092).mem.wf = true ∧
    ((withI 4094).setPc 4092).fault = none ∧ ((withI 4094).setPc 4092).wait = none ∧ 1 ≤ (1 : RegNum).val ∧
    ((withI 4094).setPc 4092).I.toNat = ((withI 4094).setPc 4092).pc.toNat + 2 ∧
    ((withI 4094).setPc 4092).I.toNat + (1 : RegNum).val ≤ 4095 := by decide

/-- A draw of no rows at any `I`, and the last `I` of fifteen rows. -/
theorem witness_DrawXorsTheSpriteAndReportsCollision :
    ((0 : Nibble).toNat = 0 ∨ (withI 0xFFFF).I.toNat + (0 : Nibble).toNat - 1 ≤ 4095) ∧
    ((15 : Nibble).toNat = 0 ∨ (withI 4081).I.toNat + (15 : Nibble).toNat - 1 ≤ 4095) := by decide
/-- The glyph of digit 0 lights pixel (0, 0) and not (1, 1). -/
theorem witness_DrawXorsTheSpriteAndReportsCollision_pixels : SpriteLights State.reset 0 1 5 0 0 ∧
    ¬ SpriteLights State.reset 0 1 5 1 1 := by
  constructor
  · exact ⟨0, 0, by decide, by decide, by decide, by decide, by decide⟩
  · rintro ⟨r, c, hr, hc, hx, hy, hb⟩
    have h0 : (State.reset.readV 0).toNat = 0 := by decide
    have h1 : (State.reset.readV 1).toNat = 0 := by decide
    rw [h0] at hx
    rw [h1] at hy
    have hc1 : c = 1 := by simp at hx; omega
    have hr1 : r = 1 := by simp at hy; omega
    subst hc1 hr1
    exact absurd hb (by decide)
/-- A draw on a blank display meets no pixel; a draw of the glyph over its own first pixel does. -/
theorem witness_DrawXorsTheSpriteAndReportsCollision_hits : State.reset.fb.pixel 0 0 = false ∧
    (State.reset.withFb (Framebuffer.blank.setPixel 0 0 true)).fb.pixel 0 0 = true := by decide
theorem witness_DrawingTwiceRestoresTheDisplay :
    ((5 : Nibble).toNat = 0 ∨ State.reset.I.toNat + (5 : Nibble).toNat - 1 ≤ 4095) := by decide

theorem witness_KeyWaitBlocksOrCompletes : State.reset.inp.keyEvent = none ∧
    ({ State.reset with inp := ⟨0, 0, some 15, 0⟩ } : State).inp.keyEvent = some 15 := by decide

theorem witness_OnlyNamedPartsAreWritten : (∃ t, exec (.drw 1 2 3) State.reset = .next t) ∧
    Part.memory ∉ (Instr.drw 1 2 3).touches ∧ Part.callStack ∉ (Instr.storeRegs 3).touches ∧
    Part.accumulator ∉ (Instr.ldDtVx 3).touches := ⟨⟨_, rfl⟩, by decide⟩
theorem witness_OnlyNamedRegistersAreWritten : (∃ t, exec (.loadRegs 3) State.reset = .next t) ∧
    (4 : RegNum) ∉ (Instr.loadRegs 3).dests ∧ VF ∉ (Instr.orReg 1 2).dests := ⟨⟨_, rfl⟩, by decide⟩
/-- Each of the five raising instructions raises at the first value it must, and not at the last it must not. -/
theorem witness_FaultsAreListedAndPrecise :
    (Instr.call 0).raises (withSp 16) = some .stackOverflow ∧ (Instr.call 0).raises (withSp 15) = none ∧
    Instr.ret.raises (withSp 0) = some .stackUnderflow ∧ Instr.ret.raises (withSp 1) = none ∧
    (Instr.drw 0 0 15).raises (withI 4082) = some .memoryBounds ∧ (Instr.drw 0 0 15).raises (withI 4081) = none ∧
    (Instr.drw 0 0 0).raises (withI 0xFFFF) = none ∧
    (Instr.ldBcd 0).raises (withI 4094) = some .memoryBounds ∧ (Instr.ldBcd 0).raises (withI 4093) = none ∧
    (Instr.storeRegs 15).raises (withI 4081) = some .memoryBounds ∧ (Instr.storeRegs 15).raises (withI 4080) = none ∧
    (Instr.loadRegs 0).raises (withI 4096) = some .memoryBounds ∧ (Instr.loadRegs 0).raises (withI 4095) = none := by decide
theorem witness_PcMovesAsTheTableSays : (∃ t, exec .ret (withSp 0) = .next t) ∧ Instr.ret.raises (withSp 0) ≠ none ∧
    (∃ t, exec (.jpV0 0xFFF) (withSp 0) = .next t) ∧ (Instr.jpV0 0xFFF).raises (withSp 0) = none :=
  ⟨⟨_, rfl⟩, by decide, ⟨_, rfl⟩, by decide⟩
/-- Two inputs that are the same to `CXKK`, to a skip and to `FX0A`, and differ elsewhere. -/
theorem witness_InputsReachOnlyTheirReaders :
    (Instr.rnd 1 2).SameInputs State.reset.inp ⟨7, 0xFFFF, some 3, 0⟩ ∧
    (Instr.skp 1).SameInputs State.reset.inp ⟨7, 0, some 3, 0xA5⟩ ∧
    (Instr.ldVxKey 1).SameInputs State.reset.inp ⟨7, 0xFFFF, none, 0xA5⟩ ∧
    (∃ t, exec (.rnd 1 2) State.reset = .next t) := ⟨rfl, rfl, rfl, _, rfl⟩

end Sys2Proof.Tests
end

section
/-! The fields of a word (spec/30_encoding.md R92) as numbers: each is a slice of bits, so a quotient by a power of two
modulo another. -/

namespace Sys2Proof

/-- The top nibble needs no modulus: a word is below 65536. -/
@[simp] theorem opField_toNat (w : Word) : (opField w).toNat = w.toNat / 4096 := by
  have hslice : (opField w).toNat = w.toNat / 4096 % 16 := by
    rw [opField, BitVec.extractLsb'_toNat, Nat.shiftRight_eq_div_pow]
  have hw : w.toNat < 65536 := w.isLt
  omega

@[simp] theorem xField_val (w : Word) : (xField w).val = w.toNat / 256 % 16 := by
  rw [xField, BitVec.val_toFin, BitVec.extractLsb'_toNat, Nat.shiftRight_eq_div_pow]

@[simp] theorem yField_val (w : Word) : (yField w).val = w.toNat / 16 % 16 := by
  rw [yField, BitVec.val_toFin, BitVec.extractLsb'_toNat, Nat.shiftRight_eq_div_pow]

@[simp] theorem nField_toNat (w : Word) : (nField w).toNat = w.toNat % 16 := by
  rw [nField, BitVec.extractLsb'_toNat, Nat.shiftRight_zero]

@[simp] theorem kkField_toNat (w : Word) : (kkField w).toNat = w.toNat % 256 := by
  rw [kkField, BitVec.extractLsb'_toNat, Nat.shiftRight_zero]

@[simp] theorem nnnField_toNat (w : Word) : (nnnField w).toNat = w.toNat % 4096 := by
  rw [nnnField, BitVec.extractLsb'_toNat, Nat.shiftRight_zero]

/-- Settles O2: the six fields, one lemma each. -/
theorem fieldsAreTheNibblesOfTheWord : Obligations.FieldsAreTheNibblesOfTheWord := fun w =>
  ⟨opField_toNat w, xField_val w, yField_val w, nField_toNat w, kkField_toNat w, nnnField_toNat w⟩

end Sys2Proof
end

section
/-! The jump `1NNN` (spec/41_control_flow.md R141): moving pc is outside every frame, so a jump keeps all the frame speaks of. -/

namespace Sys2Proof.Machine

/-- A value of at most 16 bits keeps its number when it becomes a word. -/
@[simp] theorem zext16_toNat {n : Nat} (h : n ≤ 16) (v : BitVec n) : (zext16 v).toNat = v.toNat :=
  BitVec.toNat_setWidth_of_le h

theorem FrameBut.refl (regs : List RegNum) (parts : List Part) (s : State) : FrameBut regs parts s s := by
  refine ⟨fun _ _ => rfl, fun p _ => ?_⟩
  cases p <;> simp [Part.Same]

/-- No part of the state is pc. -/
@[simp] theorem Part.same_setPc (s t : State) (a : Word) (p : Part) : Part.Same s (t.setPc a) p ↔ Part.Same s t p := by
  cases p <;> simp [Part.Same]

/-- A frame does not speak of pc, so moving pc keeps it. -/
theorem FrameBut.setPc {regs : List RegNum} {parts : List Part} {s t : State} (h : FrameBut regs parts s t) (a : Word) :
    FrameBut regs parts s (t.setPc a) := by
  obtain ⟨hregs, hparts⟩ := h
  exact ⟨fun k hk => (State.setPc_readV t a k).trans (hregs k hk), fun p hp => (Part.same_setPc s t a p).2 (hparts p hp)⟩

theorem exec_jp (nnn : Imm12) (s : State) : exec (.jp nnn) s = .next (s.setPc (zext16 nnn)) := rfl

/-- Settles O27: the jump is one move of pc to the zero-extended immediate. -/
theorem jumpGoesToNNN : Obligations.JumpGoesToNNN := by
  intro nnn s
  have hpc : (s.setPc (zext16 nnn)).pc.toNat = nnn.toNat := zext16_toNat (by decide) nnn
  exact ⟨_, exec_jp nnn s, hpc, (FrameBut.refl [] [] s).setPc _⟩

end Sys2Proof.Machine
end

section
/-! Writing one register and going on (spec/42_register_ops.md R160 b, d), the shape shared by the instructions without a flag:
what `State.finish` writes, where it leaves pc and what it keeps; then the immediate load and add (R161, R162). -/

namespace Sys2Proof.Machine

/-- No part of the state is a V register. -/
@[simp] theorem Part.same_writeV (s t : State) (x : RegNum) (v : Byte) (p : Part) :
    Part.Same s (t.writeV x v) p ↔ Part.Same s t p := by
  cases p <;> simp [Part.Same]

/-- Writing a register the frame excepts keeps the frame. -/
theorem FrameBut.writeV {regs : List RegNum} {parts : List Part} {s t : State} (h : FrameBut regs parts s t)
    {x : RegNum} (hx : x ∈ regs) (v : Byte) : FrameBut regs parts s (t.writeV x v) := by
  obtain ⟨hregs, hparts⟩ := h
  refine ⟨fun k hk => ?_, fun p hp => (Part.same_writeV s t x v p).2 (hparts p hp)⟩
  have hkx : k ≠ x := fun heq => hk (heq ▸ hx)
  rw [State.readV_writeV, if_neg hkx, hregs k hk]

namespace State

variable (s : State) (x : RegNum) (v : Byte)

theorem advance_pc_toNat : s.advance.pc.toNat = (s.pc.toNat + 2) % 65536 := by
  rw [advance_pc, BitVec.toNat_add]
  rfl

@[simp] theorem finish_readV_same : (s.finish x v).readV x = v := by
  rw [finish, advance_readV, readV_writeV_same]

theorem finish_pc_toNat : (s.finish x v).pc.toNat = (s.pc.toNat + 2) % 65536 :=
  advance_pc_toNat (s.writeV x v)

/-- VF is kept like every other register unless it is the destination (R161, R162). -/
theorem finish_frame : FrameBut [x] [] s (s.finish x v) :=
  ((FrameBut.refl [x] [] s).writeV (List.mem_singleton_self x) v).setPc _

end State

theorem exec_ldImm (x : RegNum) (kk : Byte) (s : State) : exec (.ldImm x kk) s = .next (s.finish x kk) := rfl

theorem exec_addImm (x : RegNum) (kk : Byte) (s : State) :
    exec (.addImm x kk) s = .next (s.finish x (s.readV x + kk)) := rfl

/-- Settles O34: both instructions finish with one register write, of KK and of the byte sum. -/
theorem immediatesLoadAndAddWithoutFlag : Obligations.ImmediatesLoadAndAddWithoutFlag := by
  intro x kk s
  have hsum : ((s.finish x (s.readV x + kk)).readV x).toNat = ((s.readV x).toNat + kk.toNat) % 256 := by
    rw [State.finish_readV_same, BitVec.toNat_add]
  exact ⟨⟨_, exec_ldImm x kk s, s.finish_readV_same x kk, s.finish_pc_toNat x kk, s.finish_frame x kk⟩,
    ⟨_, exec_addImm x kk s, hsum, s.finish_pc_toNat x _, s.finish_frame x _⟩⟩

end Sys2Proof.Machine
end

section
/-! The fields of a word laid out in one of the three formats (spec/30_encoding.md R92, R93): each field is read back, and a
word is its own fields laid out. The decoder and the encoder are inverse to each other by these. -/

namespace Sys2Proof

/-! ### Reading a field back -/

section Fields

variable (op : Nibble) (nnn : Imm12) (x y : RegNum) (kk : Byte) (n : Nibble)

theorem formatNNN_toNat : (formatNNN op nnn).toNat = op.toNat * 4096 + nnn.toNat := by
  rw [formatNNN, BitVec.toNat_append, ← Nat.shiftLeft_add_eq_or_of_lt nnn.isLt, Nat.shiftLeft_eq]

theorem regBits_toNat : (regBits x).toNat = x.val := rfl

theorem formatXKK_toNat : (formatXKK op x kk).toNat = op.toNat * 4096 + x.val * 256 + kk.toNat := by
  rw [formatXKK, BitVec.toNat_append, ← Nat.shiftLeft_add_eq_or_of_lt kk.isLt, BitVec.toNat_append,
    ← Nat.shiftLeft_add_eq_or_of_lt (regBits x).isLt, Nat.shiftLeft_eq, Nat.shiftLeft_eq, regBits_toNat]
  omega

theorem formatXYN_eq_formatXKK : formatXYN op x y n = formatXKK op x (regBits y ++ n) := rfl

theorem regBits_append_toNat : (regBits y ++ n).toNat = y.val * 16 + n.toNat := by
  rw [BitVec.toNat_append, ← Nat.shiftLeft_add_eq_or_of_lt n.isLt, Nat.shiftLeft_eq, regBits_toNat]

@[simp] theorem opField_formatNNN : opField (formatNNN op nnn) = op :=
  BitVec.eq_of_toNat_eq (by rw [opField_toNat, formatNNN_toNat]; omega)

@[simp] theorem nnnField_formatNNN : nnnField (formatNNN op nnn) = nnn :=
  BitVec.eq_of_toNat_eq (by rw [nnnField_toNat, formatNNN_toNat]; omega)

@[simp] theorem opField_formatXKK : opField (formatXKK op x kk) = op :=
  BitVec.eq_of_toNat_eq (by rw [opField_toNat, formatXKK_toNat]; omega)

@[simp] theorem xField_formatXKK : xField (formatXKK op x kk) = x :=
  Fin.ext (by rw [xField_val, formatXKK_toNat]; omega)

@[simp] theorem kkField_formatXKK : kkField (formatXKK op x kk) = kk :=
  BitVec.eq_of_toNat_eq (by rw [kkField_toNat, formatXKK_toNat]; omega)

@[simp] theorem opField_formatXYN : opField (formatXYN op x y n) = op := opField_formatXKK _ _ _

@[simp] theorem xField_formatXYN : xField (formatXYN op x y n) = x := xField_formatXKK _ _ _

@[simp] theorem yField_formatXYN : yField (formatXYN op x y n) = y :=
  Fin.ext (by rw [yField_val, formatXYN_eq_formatXKK, formatXKK_toNat, regBits_append_toNat]; omega)

@[simp] theorem nField_formatXYN : nField (formatXYN op x y n) = n :=
  BitVec.eq_of_toNat_eq (by rw [nField_toNat, formatXYN_eq_formatXKK, formatXKK_toNat, regBits_append_toNat]; omega)

end Fields

/-! ### A word is its fields -/

section Words

variable (w : Word)

theorem formatNNN_fields : formatNNN (opField w) (nnnField w) = w :=
  BitVec.eq_of_toNat_eq (by rw [formatNNN_toNat, opField_toNat, nnnField_toNat]; omega)

theorem formatXKK_fields : formatXKK (opField w) (xField w) (kkField w) = w :=
  BitVec.eq_of_toNat_eq (by rw [formatXKK_toNat, opField_toNat, xField_val, kkField_toNat]; omega)

theorem formatXYN_fields : formatXYN (opField w) (xField w) (yField w) (nField w) = w :=
  BitVec.eq_of_toNat_eq (by
    rw [formatXYN_eq_formatXKK, formatXKK_toNat, regBits_append_toNat, opField_toNat, xField_val, yField_val, nField_toNat]
    omega)

@[simp] theorem joinBytes_high_low : joinBytes (highByte w) (lowByte w) = w :=
  BitVec.eq_of_toNat_eq (by
    rw [joinBytes, BitVec.toNat_append, ← Nat.shiftLeft_add_eq_or_of_lt (lowByte w).isLt, highByte, lowByte,
      BitVec.extractLsb'_toNat, BitVec.extractLsb'_toNat, Nat.shiftLeft_eq, Nat.shiftRight_eq_div_pow, Nat.shiftRight_zero]
    omega)

theorem joinBytes_toNat (hi lo : Byte) : (joinBytes hi lo).toNat = 256 * hi.toNat + lo.toNat := by
  rw [joinBytes, BitVec.toNat_append, ← Nat.shiftLeft_add_eq_or_of_lt lo.isLt, Nat.shiftLeft_eq]
  omega

end Words

/-! ### The four families with a secondary code (R97 to R100)

In each the code is either one of the listed ones, and the instruction has a meaning, or it is not, and the instruction is the
family's unknown one with the word's own fields. -/

section Families

variable {w : Word}

theorem decodeFamily0_unknown (h : codes0.contains (nnnField w) = false) : decodeFamily0 w = .unk0 (nnnField w) := by
  simp only [codes0, List.contains_cons, List.contains_nil, Bool.or_eq_false_iff, beq_eq_false_iff_ne] at h
  obtain ⟨hhalt, hcls, hret, -⟩ := h
  rw [decodeFamily0, if_neg hhalt, if_neg hcls, if_neg hret]

theorem decodeFamily8_unknown (h : codes8.contains (nField w) = false) :
    decodeFamily8 w = .unk8 (xField w) (yField w) (nField w) := by
  unfold decodeFamily8
  split <;> simp_all [codes8]

theorem decodeFamilyE_unknown (h : codesE.contains (kkField w) = false) :
    decodeFamilyE w = .unkE (xField w) (kkField w) := by
  unfold decodeFamilyE
  split <;> simp_all [codesE]

theorem decodeFamilyF_unknown (h : codesF.contains (kkField w) = false) :
    decodeFamilyF w = .unkF (xField w) (kkField w) := by
  unfold decodeFamilyF
  split <;> simp_all [codesF]

theorem isUnknown_decodeFamily0 : (decodeFamily0 w).isUnknown = !codes0.contains (nnnField w) := by
  unfold decodeFamily0
  repeat' split
  all_goals simp_all [Instr.isUnknown, codes0]

theorem isUnknown_decodeFamily8 : (decodeFamily8 w).isUnknown = !codes8.contains (nField w) := by
  unfold decodeFamily8
  split <;> simp_all [Instr.isUnknown, codes8]

theorem isUnknown_decodeFamilyE : (decodeFamilyE w).isUnknown = !codesE.contains (kkField w) := by
  unfold decodeFamilyE
  split <;> simp_all [Instr.isUnknown, codesE]

theorem isUnknown_decodeFamilyF : (decodeFamilyF w).isUnknown = !codesF.contains (kkField w) := by
  unfold decodeFamilyF
  split <;> simp_all [Instr.isUnknown, codesF]

theorem encode_decodeFamily0 : encode (decodeFamily0 w) = formatNNN 0x0#4 (nnnField w) := by
  unfold decodeFamily0
  repeat' split
  all_goals simp_all [encode, formatNNN]

theorem encode_decodeFamily8 : encode (decodeFamily8 w) = formatXYN 0x8#4 (xField w) (yField w) (nField w) := by
  unfold decodeFamily8
  split <;> simp_all [encode]

theorem encode_decodeFamilyE : encode (decodeFamilyE w) = formatXKK 0xE#4 (xField w) (kkField w) := by
  unfold decodeFamilyE
  split <;> simp_all [encode]

theorem encode_decodeFamilyF : encode (decodeFamilyF w) = formatXKK 0xF#4 (xField w) (kkField w) := by
  unfold decodeFamilyF
  split <;> simp_all [encode]

theorem wf_decodeFamily0 : (decodeFamily0 w).wf = true := by
  unfold decodeFamily0
  repeat' split
  all_goals simp_all [Instr.wf, codes0]

theorem wf_decodeFamily8 : (decodeFamily8 w).wf = true := by
  unfold decodeFamily8
  split <;> simp_all [Instr.wf, codes8]

theorem wf_decodeFamilyE : (decodeFamilyE w).wf = true := by
  unfold decodeFamilyE
  split <;> simp_all [Instr.wf, codesE]

theorem wf_decodeFamilyF : (decodeFamilyF w).wf = true := by
  unfold decodeFamilyF
  split <;> simp_all [Instr.wf, codesF]

end Families

/-! ### Decoding what was encoded -/

/-- The decoder undoes the encoder: the family and the secondary code are read back, and the code of a well-formed unknown
instruction is none of the family's codes (R104, R109). -/
theorem decodeWord_encode (i : Instr) (h : i.wf = true) : decodeWord (encode i) = i := by
  cases i with
  | halt | cls | ret => decide
  | unk0 nnn =>
    simp only [Instr.wf, codes0, List.contains_cons, List.contains_nil, Bool.not_eq_true', Bool.or_eq_false_iff,
      beq_eq_false_iff_ne] at h
    obtain ⟨hhalt, hcls, hret, -⟩ := h
    simp [encode, decodeWord, decodeFamily0, hhalt, hcls, hret]
  | unk8 x y n =>
    have hcode : codes8.contains n = false := by simpa [Instr.wf] using h
    simpa [encode, decodeWord] using decodeFamily8_unknown (w := formatXYN 0x8 x y n) (by simpa using hcode)
  | unkE x kk =>
    have hcode : codesE.contains kk = false := by simpa [Instr.wf] using h
    simpa [encode, decodeWord] using decodeFamilyE_unknown (w := formatXKK 0xE x kk) (by simpa using hcode)
  | unkF x kk =>
    have hcode : codesF.contains kk = false := by simpa [Instr.wf] using h
    simpa [encode, decodeWord] using decodeFamilyF_unknown (w := formatXKK 0xF x kk) (by simpa using hcode)
  | _ => simp [encode, decodeWord, decodeFamily8, decodeFamilyE, decodeFamilyF]

end Sys2Proof
end

section
/-! Decoding any word (spec/30_encoding.md R95, R103, R109): the decoder's answer is well-formed and spells the word again, it is
the row the ordered table picks, and which words are unknown. -/

namespace Sys2Proof

/-- The sixteen families (R95), the four with a secondary code first. -/
theorem family_cases (op : Nibble) : op = 0x0#4 ∨ op = 0x8#4 ∨ op = 0xE#4 ∨ op = 0xF#4 ∨ op = 0x1#4 ∨ op = 0x2#4 ∨
    op = 0x3#4 ∨ op = 0x4#4 ∨ op = 0x5#4 ∨ op = 0x6#4 ∨ op = 0x7#4 ∨ op = 0x9#4 ∨ op = 0xA#4 ∨ op = 0xB#4 ∨
    op = 0xC#4 ∨ op = 0xD#4 := by
  revert op
  decide

section Decoder

variable {w : Word}

theorem decodeWord_family0 (h : opField w = 0x0#4) : decodeWord w = decodeFamily0 w := by simp [decodeWord, h]

theorem decodeWord_family8 (h : opField w = 0x8#4) : decodeWord w = decodeFamily8 w := by simp [decodeWord, h]

theorem decodeWord_familyE (h : opField w = 0xE#4) : decodeWord w = decodeFamilyE w := by simp [decodeWord, h]

theorem decodeWord_familyF (h : opField w = 0xF#4) : decodeWord w = decodeFamilyF w := by simp [decodeWord, h]

end Decoder

/-- What the decoder answers is well-formed: each family's unknown instruction comes after the codes with a meaning. -/
theorem wf_decodeWord (w : Word) : (decodeWord w).wf = true := by
  rcases family_cases (opField w) with hop | hop | hop | hop | hplain
  · rw [decodeWord_family0 hop, wf_decodeFamily0]
  · rw [decodeWord_family8 hop, wf_decodeFamily8]
  · rw [decodeWord_familyE hop, wf_decodeFamilyE]
  · rw [decodeWord_familyF hop, wf_decodeFamilyF]
  · rcases hplain with hop | hop | hop | hop | hop | hop | hop | hop | hop | hop | hop | hop <;>
      simp [decodeWord, hop, Instr.wf]

/-- The encoder undoes the decoder: in every family the instruction keeps all the fields of the word. -/
theorem encode_decodeWord (w : Word) : encode (decodeWord w) = w := by
  have hnnn := formatNNN_fields w
  have hxkk := formatXKK_fields w
  have hxyn := formatXYN_fields w
  rcases family_cases (opField w) with hop | hop | hop | hop | hplain
  · rw [decodeWord_family0 hop, encode_decodeFamily0, ← hop, hnnn]
  · rw [decodeWord_family8 hop, encode_decodeFamily8, ← hop, hxyn]
  · rw [decodeWord_familyE hop, encode_decodeFamilyE, ← hop, hxkk]
  · rw [decodeWord_familyF hop, encode_decodeFamilyF, ← hop, hxkk]
  · rcases hplain with hop | hop | hop | hop | hop | hop | hop | hop | hop | hop | hop | hop <;>
      rw [hop] at hnnn hxkk hxyn <;> simp [decodeWord, hop, encode, hnnn, hxkk, hxyn]

/-- The words of an unknown code, by their fields. -/
theorem isUnknown_decodeWord (w : Word) : (decodeWord w).isUnknown = true ↔
    (opField w = 0x0#4 ∧ nnnField w ∉ codes0) ∨ (opField w = 0x8#4 ∧ nField w ∉ codes8) ∨
    (opField w = 0xE#4 ∧ kkField w ∉ codesE) ∨ (opField w = 0xF#4 ∧ kkField w ∉ codesF) := by
  rcases family_cases (opField w) with hop | hop | hop | hop | hplain
  · simp [decodeWord_family0 hop, isUnknown_decodeFamily0, hop]
  · simp [decodeWord_family8 hop, isUnknown_decodeFamily8, hop]
  · simp [decodeWord_familyE hop, isUnknown_decodeFamilyE, hop]
  · simp [decodeWord_familyF hop, isUnknown_decodeFamilyF, hop]
  · rcases hplain with hop | hop | hop | hop | hop | hop | hop | hop | hop | hop | hop | hop <;>
      simp [decodeWord, hop, Instr.isUnknown]

/-! ### The ordered table (R109)

Only the rows of its own family can match a word. Of those the catch-all row, or the family's only row, comes last and matches
every word of the family; each row before it matches exactly the words of its secondary code. -/

/-- The rows of one family, in the table's order. -/
def rowsOf (op : Nibble) : List OpcodeRow := opcodeTable.filter (opField ·.matchBits == op)

/-- The pattern of the row with the secondary code of a word, or of the catch-all row. -/
def codePattern {k : Nat} (rows : List OpcodeRow) (code : Word → BitVec k) (w : Word) (catchAll : String) : String :=
  ((rows.find? fun r => code w == code r.matchBits).map (·.pattern)).getD catchAll

section Table

variable (w : Word)

theorem and_familyMask : w &&& 0xF000#16 = formatNNN (opField w) 0x000#12 := by
  have h := Laws.formatNNN_and_family (opField w) (nnnField w)
  rwa [formatNNN_fields] at h

theorem and_nibbleMask : w &&& 0xF00F#16 = formatXYN (opField w) 0 0 (nField w) := by
  have h := Laws.formatXYN_and_secondary (opField w) (xField w) (yField w) (nField w)
  rwa [formatXYN_fields] at h

theorem and_byteMask : w &&& 0xF0FF#16 = formatXKK (opField w) 0 (kkField w) := by
  have h := Laws.formatXKK_and_secondary (opField w) (xField w) (kkField w)
  rwa [formatXKK_fields] at h

variable {w}

theorem matches_fullRow {r : OpcodeRow} (hop : opField w = 0x0#4) (hmask : r.mask = 0xFFFF#16)
    (hbits : r.matchBits = formatNNN 0x0#4 (nnnField r.matchBits)) :
    r.matches w = (nnnField w == nnnField r.matchBits) := by
  have hw : w &&& r.mask = formatNNN 0x0#4 (nnnField w) := by
    rw [hmask, ← hop, formatNNN_fields]
    exact BitVec.and_allOnes
  rw [OpcodeRow.matches, hw, Bool.eq_iff_iff, beq_iff_eq, beq_iff_eq]
  exact ⟨fun h => by rw [← h, nnnField_formatNNN], fun h => by rw [h, ← hbits]⟩

theorem matches_nibbleRow {r : OpcodeRow} (hmask : r.mask = 0xF00F#16)
    (hbits : r.matchBits = formatXYN (opField w) 0 0 (nField r.matchBits)) :
    r.matches w = (nField w == nField r.matchBits) := by
  rw [OpcodeRow.matches, hmask, and_nibbleMask, Bool.eq_iff_iff, beq_iff_eq, beq_iff_eq]
  exact ⟨fun h => by rw [← h, nField_formatXYN], fun h => by rw [h, ← hbits]⟩

theorem matches_byteRow {r : OpcodeRow} (hmask : r.mask = 0xF0FF#16)
    (hbits : r.matchBits = formatXKK (opField w) 0 (kkField r.matchBits)) :
    r.matches w = (kkField w == kkField r.matchBits) := by
  rw [OpcodeRow.matches, hmask, and_byteMask, Bool.eq_iff_iff, beq_iff_eq, beq_iff_eq]
  exact ⟨fun h => by rw [← h, kkField_formatXKK], fun h => by rw [h, ← hbits]⟩

theorem matches_familyRow {r : OpcodeRow} (hmask : r.mask = 0xF000#16)
    (hbits : r.matchBits = formatNNN (opField w) 0x000#12) : r.matches w = true := by
  rw [OpcodeRow.matches, hmask, and_familyMask, hbits, beq_self_eq_true]

/-- A row that matches is of the word's family: every mask covers the family nibble. -/
theorem opField_eq_of_matches {r : OpcodeRow} (hr : r ∈ opcodeTable) (h : r.matches w = true) :
    opField r.matchBits = opField w := by
  have hmask : ∀ r ∈ opcodeTable, opField r.mask = BitVec.allOnes 4 := by decide
  rw [OpcodeRow.matches, beq_iff_eq] at h
  rw [← h, opField, BitVec.extractLsb'_and]
  exact (congrArg (opField w &&& ·) (hmask r hr)).trans BitVec.and_allOnes

theorem find?_rowsOf : opcodeTable.find? (·.matches w) = (rowsOf (opField w)).find? (·.matches w) := by
  rw [rowsOf, List.find?_filter]
  refine List.find?_congr fun r hr => ?_
  cases h : r.matches w with
  | false => simp
  | true => simp [opField_eq_of_matches hr h]

/-- The table's answer for a word whose family has the rows `rows` and then a catch-all row. -/
theorem tablePattern_eq_codePattern {k : Nat} {code : Word → BitVec k} {rows : List OpcodeRow} {catchAll : OpcodeRow}
    (hrows : rowsOf (opField w) = rows ++ [catchAll]) (hlast : catchAll.matches w = true)
    (hcode : ∀ r ∈ rows, r.matches w = (code w == code r.matchBits)) :
    tablePattern w = some (codePattern rows code w catchAll.pattern) := by
  have hcatch : [catchAll].find? (·.matches w) = some catchAll := by simp [hlast]
  rw [tablePattern, find?_rowsOf, hrows, List.find?_append, List.find?_congr hcode, hcatch, codePattern]
  cases rows.find? fun r => code w == code r.matchBits <;> rfl

/-- A family with one row only. -/
theorem tablePattern_of_single {row : OpcodeRow} (hrows : rowsOf (opField w) = [row]) (hmask : row.mask = 0xF000#16)
    (hbits : row.matchBits = formatNNN (opField w) 0x000#12) : tablePattern w = some row.pattern :=
  tablePattern_eq_codePattern (code := nnnField) (rows := []) hrows (matches_familyRow hmask hbits) (by simp)

theorem codePattern_of_notMem {k : Nat} {code : Word → BitVec k} {rows : List OpcodeRow} {codes : List (BitVec k)}
    {catchAll : String} (hcodes : rows.map (code ·.matchBits) = codes) (h : codes.contains (code w) = false) :
    codePattern rows code w catchAll = catchAll := by
  have hnone : rows.find? (fun r => code w == code r.matchBits) = none := by
    rw [List.find?_eq_none]
    intro r hr heq
    rw [← Bool.not_eq_true, List.contains_iff_mem, ← hcodes, beq_iff_eq.1 heq] at h
    exact h (List.mem_map_of_mem hr)
  rw [codePattern, hnone]
  rfl

/-! ### The decoder picks the row of the secondary code -/

theorem pattern_decodeFamily0 : (decodeFamily0 w).pattern = codePattern (rowsLow.take 3) nnnField w "0NNN" := by
  cases hcode : codes0.contains (nnnField w) with
  | false => rw [decodeFamily0_unknown hcode, codePattern_of_notMem (by decide) hcode, Instr.pattern]
  | true =>
    unfold decodeFamily0 codePattern
    split
    · next hn => rw [hn]; rfl
    split
    · next hn => rw [hn]; rfl
    split
    · next hn => rw [hn]; rfl
    · simp_all [codes0]

theorem pattern_decodeFamily8 : (decodeFamily8 w).pattern = codePattern rows8 nField w "8XYN" := by
  cases hcode : codes8.contains (nField w) with
  | false => rw [decodeFamily8_unknown hcode, codePattern_of_notMem (by decide) hcode, Instr.pattern]
  | true =>
    unfold decodeFamily8 codePattern
    split
    case h_10 => simp_all [codes8]
    all_goals next hn => rw [hn]; rfl

theorem pattern_decodeFamilyE : (decodeFamilyE w).pattern = codePattern (rowsHigh.drop 5) kkField w "EXKK" := by
  cases hcode : codesE.contains (kkField w) with
  | false => rw [decodeFamilyE_unknown hcode, codePattern_of_notMem (by decide) hcode, Instr.pattern]
  | true =>
    unfold decodeFamilyE codePattern
    split
    case h_3 => simp_all [codesE]
    all_goals next hn => rw [hn]; rfl

theorem pattern_decodeFamilyF : (decodeFamilyF w).pattern = codePattern rowsF kkField w "FXKK" := by
  cases hcode : codesF.contains (kkField w) with
  | false => rw [decodeFamilyF_unknown hcode, codePattern_of_notMem (by decide) hcode, Instr.pattern]
  | true =>
    unfold decodeFamilyF codePattern
    split
    case h_10 => simp_all [codesF]
    all_goals next hn => rw [hn]; rfl

/-- The decoder, written as a tree of cases, follows the ordered table: each family's rows are its codes, then the rest. -/
theorem tablePattern_decodeWord (w : Word) : tablePattern w = some (decodeWord w).pattern := by
  rcases family_cases (opField w) with hop | hop | hop | hop | hplain
  · rw [decodeWord_family0 hop, pattern_decodeFamily0]
    have hfamily : rowsOf 0x0#4 = rowsLow.take 3 ++ [⟨"0NNN", 0x0000, 0xF000⟩] := by decide
    refine tablePattern_eq_codePattern (hop ▸ hfamily) (matches_familyRow rfl (by rw [hop]; decide)) ?_
    have hrows : ∀ r ∈ rowsLow.take 3, r.mask = 0xFFFF#16 ∧ r.matchBits = formatNNN 0x0#4 (nnnField r.matchBits) := by
      decide
    exact fun r hr => matches_fullRow hop (hrows r hr).1 (hrows r hr).2
  · rw [decodeWord_family8 hop, pattern_decodeFamily8]
    have hfamily : rowsOf 0x8#4 = rows8 ++ [⟨"8XYN", 0x8000, 0xF000⟩] := by decide
    refine tablePattern_eq_codePattern (hop ▸ hfamily) (matches_familyRow rfl (by rw [hop]; decide)) ?_
    have hrows : ∀ r ∈ rows8, r.mask = 0xF00F#16 ∧ r.matchBits = formatXYN 0x8#4 0 0 (nField r.matchBits) := by decide
    rw [← hop] at hrows
    exact fun r hr => matches_nibbleRow (hrows r hr).1 (hrows r hr).2
  · rw [decodeWord_familyE hop, pattern_decodeFamilyE]
    have hfamily : rowsOf 0xE#4 = rowsHigh.drop 5 ++ [⟨"EXKK", 0xE000, 0xF000⟩] := by decide
    refine tablePattern_eq_codePattern (hop ▸ hfamily) (matches_familyRow rfl (by rw [hop]; decide)) ?_
    have hrows : ∀ r ∈ rowsHigh.drop 5, r.mask = 0xF0FF#16 ∧ r.matchBits = formatXKK 0xE#4 0 (kkField r.matchBits) := by
      decide
    rw [← hop] at hrows
    exact fun r hr => matches_byteRow (hrows r hr).1 (hrows r hr).2
  · rw [decodeWord_familyF hop, pattern_decodeFamilyF]
    have hfamily : rowsOf 0xF#4 = rowsF ++ [⟨"FXKK", 0xF000, 0xF000⟩] := by decide
    refine tablePattern_eq_codePattern (hop ▸ hfamily) (matches_familyRow rfl (by rw [hop]; decide)) ?_
    have hrows : ∀ r ∈ rowsF, r.mask = 0xF0FF#16 ∧ r.matchBits = formatXKK 0xF#4 0 (kkField r.matchBits) := by decide
    rw [← hop] at hrows
    exact fun r hr => matches_byteRow (hrows r hr).1 (hrows r hr).2
  · rcases hplain with hop | hop | hop | hop | hop | hop | hop | hop | hop | hop | hop | hop <;>
      simp only [decodeWord, hop] <;> exact tablePattern_of_single (by rw [hop]; rfl) rfl (by rw [hop]; decide)

end Table

/-! ### The statements about decoding -/

/-- Settles O3: the two bytes of the encoded word join to that word, and the decoder undoes the encoder on words. -/
theorem decodeOfEncodeIsIdentity : Obligations.DecodeOfEncodeIsIdentity := by
  intro i rest hwf
  simp only [bytesOf, List.cons_append, List.nil_append, decode, joinBytes_high_low, decodeWord_encode i hwf]

/-- Settles O4: the decoder's answer is well-formed and keeps every field of the word. -/
theorem encodeOfDecodeIsIdentity : Obligations.EncodeOfDecodeIsIdentity := fun w =>
  ⟨wf_decodeWord w, encode_decodeWord w⟩

/-- Settles O5, family by family. -/
theorem decodeFollowsTheOrderedTable : Obligations.DecodeFollowsTheOrderedTable := tablePattern_decodeWord

/-- Settles O6: the four families with unlisted codes, each field read as a number. -/
theorem unknownWordsAreExactlyThese : Obligations.UnknownWordsAreExactlyThese := by
  intro w
  simp only [isUnknown_decodeWord, codes0, codes8, codesE, codesF, List.mem_cons, List.not_mem_nil, or_false,
    ← BitVec.toNat_inj, opField_toNat, nField_toNat, kkField_toNat, nnnField_toNat, BitVec.toNat_ofNat]
  omega

/-- Settles O1: closed words, evaluated. -/
theorem specWordsDecode : Obligations.SpecWordsDecode := by
  unfold Obligations.SpecWordsDecode
  decide

end Sys2Proof
end

section
/-! Frames of the named updates (spec/10_state.md R20 to R47): which part of the state each of them writes. A frame of a longer
meaning is put together from these. -/

namespace Sys2Proof.Machine

theorem Part.Same.trans {s t u : State} {p : Part} (h : Part.Same s t p) (h' : Part.Same t u p) : Part.Same s u p := by
  cases p <;> simp_all [Part.Same]

theorem FrameBut.trans {regs : List RegNum} {parts : List Part} {s t u : State} (h : FrameBut regs parts s t)
    (h' : FrameBut regs parts t u) : FrameBut regs parts s u :=
  ⟨fun k hk => (h'.1 k hk).trans (h.1 k hk), fun p hp => (h.2 p hp).trans (h'.2 p hp)⟩

/-- A frame that excepts less says more. -/
theorem FrameBut.mono {regs regs' : List RegNum} {parts parts' : List Part} {s t : State} (h : FrameBut regs parts s t)
    (hregs : regs ⊆ regs') (hparts : parts ⊆ parts') : FrameBut regs' parts' s t :=
  ⟨fun k hk => h.1 k fun hmem => hk (hregs hmem), fun p hp => h.2 p fun hmem => hp (hparts hmem)⟩

/-- The call stack replaced: its slots and how many addresses are held. -/
def State.withStack (s : State) (slots : Vector Word 16) (held : Fin 17) : State := { s with stack := slots, sp := held }

namespace State

variable (s : State)

theorem writeI_frame (v : Word) : FrameBut [] [.index] s (s.writeI v) :=
  ⟨fun _ _ => rfl, fun p hp => by cases p <;> simp_all [Part.Same]⟩

theorem writeDT_frame (v : Byte) : FrameBut [] [.delayTimer] s (s.writeDT v) :=
  ⟨fun _ _ => rfl, fun p hp => by cases p <;> simp_all [Part.Same]⟩

theorem writeST_frame (v : Byte) : FrameBut [] [.soundTimer] s (s.writeST v) :=
  ⟨fun _ _ => rfl, fun p hp => by cases p <;> simp_all [Part.Same]⟩

theorem withMem_frame (m : Memory) : FrameBut [] [.memory] s (s.withMem m) :=
  ⟨fun _ _ => rfl, fun p hp => by cases p <;> simp_all [Part.Same]⟩

theorem withFb_frame (f : Framebuffer) : FrameBut [] [.display] s (s.withFb f) :=
  ⟨fun _ _ => rfl, fun p hp => by cases p <;> simp_all [Part.Same]⟩

theorem withStack_frame (slots : Vector Word 16) (held : Fin 17) : FrameBut [] [.callStack] s (s.withStack slots held) :=
  ⟨fun _ _ => rfl, fun p hp => by cases p <;> simp_all [Part.Same, withStack]⟩

theorem setWait_frame (w : Option RegNum) : FrameBut [] [.waitState] s (s.setWait w) :=
  ⟨fun _ _ => rfl, fun p hp => by cases p <;> simp_all [Part.Same]⟩

theorem report_frame (o : CycleOutcome) : FrameBut [] [.outputs] s (s.report o) :=
  ⟨fun _ _ => rfl, fun p hp => by cases p <;> simp_all [Part.Same]⟩

theorem strobeKeyPoll_frame : FrameBut [] [.outputs] s s.strobeKeyPoll :=
  ⟨fun _ _ => rfl, fun p hp => by cases p <;> simp_all [Part.Same]⟩

theorem latchedStep_frame (r : Fault) : FrameBut [] [.outputs] s (s.latchedStep r) :=
  ⟨fun _ _ => rfl, fun p hp => by cases p <;> simp_all [Part.Same]⟩

/-- Taking a fault is precise (R130, R275). -/
theorem raise_frame (r : Fault) : FrameBut [] [.latch, .outputs] s (s.raise r) :=
  ⟨fun _ _ => rfl, fun p hp => by cases p <;> simp_all [Part.Same]⟩

theorem unknownNoOp_frame : FrameBut [] [.outputs] s s.unknownNoOp :=
  ⟨fun _ _ => rfl, fun p hp => by cases p <;> simp_all [Part.Same]⟩

theorem withV_frame {v : RegFile} {regs : List RegNum} (h : ∀ k : RegNum, k ∉ regs → v[k] = s.readV k) :
    FrameBut regs [] s (s.withV v) :=
  ⟨h, fun p _ => by cases p <;> simp [Part.Same]⟩

theorem skipIf_frame (c : Bool) : FrameBut [] [] s (s.skipIf c) := (FrameBut.refl [] [] s).setPc _

theorem finishFlag_frame (x : RegNum) (v f : Byte) : FrameBut [x, VF] [] s (s.finishFlag x v f) :=
  (((FrameBut.refl [x, VF] [] s).writeV (by simp) v).writeV (by simp) f).setPc _

theorem afterDraw_frame (d : DrawAcc) : FrameBut [VF] [.display] s (s.afterDraw d) :=
  (((s.withFb_frame d.1).mono (by simp) (by simp)).writeV (by simp) _).setPc _

/-- A poll writes at most the register waited for, the wait and the outputs (R234). -/
theorem pollKey_frame (x : RegNum) : FrameBut [x] [.waitState, .outputs] s (s.pollKey x) := by
  have hstrobe : FrameBut [x] [.waitState, .outputs] s s.strobeKeyPoll := s.strobeKeyPoll_frame.mono (by simp) (by simp)
  cases h : s.inp.keyEvent with
  | none => rwa [pollKey_none s x h]
  | some k =>
    rw [pollKey_some s x k h]
    exact ((hstrobe.writeV (by simp) _).trans ((setWait_frame _ none).mono (by simp) (by simp))).setPc _

end State

end Sys2Proof.Machine
end

section
/-! What each instruction does when it raises nothing, as one equation (spec/40_step_cycle.md R126); the raising ones have an
equation for the state they complete in and one for the fault. -/

namespace Sys2Proof.Machine

theorem next_unique {r : Result} {t u : State} (ht : r = .next t) (hu : r = .next u) : t = u :=
  Host.Outcome.next.inj (ht.symm.trans hu)

variable (s : State) (x y : RegNum) (nnn : Imm12) (kk : Byte) (n : Nibble)

theorem exec_halt : exec .halt s = .next (s.report .halted) := rfl

theorem exec_cls : exec .cls s = .next (s.withFb Framebuffer.blank).advance := rfl

theorem exec_seImm : exec (.seImm x kk) s = .next (s.skipIf (s.readV x == kk)) := rfl

theorem exec_sneImm : exec (.sneImm x kk) s = .next (s.skipIf (s.readV x != kk)) := rfl

theorem exec_seReg : exec (.seReg x y n) s = .next (s.skipIf (s.readV x == s.readV y)) := rfl

theorem exec_sneReg : exec (.sneReg x y n) s = .next (s.skipIf (s.readV x != s.readV y)) := rfl

theorem exec_ldReg : exec (.ldReg x y) s = .next (s.finish x (s.readV y)) := rfl

theorem exec_orReg : exec (.orReg x y) s = .next (s.finish x (s.readV x ||| s.readV y)) := rfl

theorem exec_andReg : exec (.andReg x y) s = .next (s.finish x (s.readV x &&& s.readV y)) := rfl

theorem exec_xorReg : exec (.xorReg x y) s = .next (s.finish x (s.readV x ^^^ s.readV y)) := rfl

theorem exec_addReg : exec (.addReg x y) s =
    .next (s.finishFlag x (s.readV x + s.readV y) (carryFlag (s.readV x) (s.readV y))) := rfl

theorem exec_subReg : exec (.subReg x y) s =
    .next (s.finishFlag x (s.readV x - s.readV y) (greaterFlag (s.readV x) (s.readV y))) := rfl

theorem exec_shr : exec (.shr x y) s = .next (s.finishFlag x (s.readV x >>> 1) (lowBitFlag (s.readV x))) := rfl

theorem exec_subnReg : exec (.subnReg x y) s =
    .next (s.finishFlag x (s.readV y - s.readV x) (greaterFlag (s.readV y) (s.readV x))) := rfl

theorem exec_shl : exec (.shl x y) s = .next (s.finishFlag x (s.readV x <<< 1) (highBitFlag (s.readV x))) := rfl

theorem exec_ldI : exec (.ldI nnn) s = .next (s.writeI (zext16 nnn)).advance := rfl

theorem exec_jpV0 : exec (.jpV0 nnn) s = .next (s.setPc (zext16 nnn + zext16 (s.readV 0))) := rfl

theorem exec_rnd : exec (.rnd x kk) s = .next (s.finish x (s.inp.rand &&& kk)) := rfl

theorem exec_skp : exec (.skp x) s = .next (s.skipIf (s.keyDown (lowNibble (s.readV x)))) := rfl

theorem exec_sknp : exec (.sknp x) s = .next (s.skipIf (!s.keyDown (lowNibble (s.readV x)))) := rfl

theorem exec_ldVxDt : exec (.ldVxDt x) s = .next (s.finish x s.DT) := rfl

theorem exec_ldVxKey : exec (.ldVxKey x) s = .next ((s.setWait (some x)).pollKey x) := rfl

theorem exec_ldDtVx : exec (.ldDtVx x) s = .next (s.writeDT (s.readV x)).advance := rfl

theorem exec_ldStVx : exec (.ldStVx x) s = .next (s.writeST (s.readV x)).advance := rfl

theorem exec_addI : exec (.addI x) s = .next (s.writeI (s.I + zext16 (s.readV x))).advance := rfl

theorem exec_ldFont : exec (.ldFont x) s = .next (s.writeI (fontAddress (lowNibble (s.readV x)))).advance := rfl

theorem exec_unknown {i : Instr} (h : i.isUnknown = true) : exec i s = .next s.unknownNoOp := by
  cases i with
  | unk0 _ | unk8 _ _ _ | unkE _ _ | unkF _ _ => rfl
  | _ => cases h

/-! ### The instructions that can raise -/

/-- The state after `FX55` has stored V0 to VX (R195). -/
def State.afterStore (s : State) (x : RegNum) : State :=
  (s.withMem (storeRange s.V s.I.toNat s.mem (x.val + 1))).advance

/-- The state after `FX65` has loaded V0 to VX (R196). -/
def State.afterLoad (s : State) (x : RegNum) : State :=
  (s.withV (loadRange s.mem s.I.toNat s.V (x.val + 1))).advance

section Raising

variable {s x y n}

theorem exec_call_room (h : s.sp.val < 16) : exec (.call nnn) s =
    .next ((s.withStack (s.stack.set s.sp.val (s.pc + 2)) ⟨s.sp.val + 1, by omega⟩).setPc (zext16 nnn)) := by
  simp only [exec, execCall, State.push_room s _ h]
  rfl

theorem exec_call_full (h : s.sp.val = 16) : exec (.call nnn) s = .next (s.raise .stackOverflow) := by
  simp only [exec, execCall, State.push_full s _ (Fin.ext h)]

theorem exec_ret_held {k : Fin 16} (h : s.sp.val = k.val + 1) :
    exec .ret s = .next ((s.withStack s.stack ⟨k.val, by omega⟩).setPc s.stack[k]) := by
  have hk : s.sp.val - 1 = k.val := by omega
  simp only [exec, execRet, State.pop_held s (by omega), hk]
  rfl

theorem exec_ret_empty (h : s.sp.val = 0) : exec .ret s = .next (s.raise .stackUnderflow) := by
  simp only [exec, execRet, State.pop_empty s (Fin.ext h)]

theorem exec_drw_inside (h : n.toNat = 0 ∨ s.I.toNat + n.toNat - 1 ≤ 4095) :
    exec (.drw x y n) s = .next (s.afterDraw (s.drawSprite x y n.toNat)) := by
  simp only [exec, execDrw]
  split
  · next hn => rw [hn]
  · next hn => exact State.guarded_inside (show s.I.toNat + (n.toNat - 1) < 4096 by omega)

theorem exec_drw_outside (hn : 1 ≤ n.toNat) (h : 4095 < s.I.toNat + n.toNat - 1) :
    exec (.drw x y n) s = .next (s.raise .memoryBounds) := by
  simp only [exec, execDrw, if_neg (show ¬ n.toNat = 0 by omega)]
  exact State.guarded_outside (show 4096 ≤ s.I.toNat + (n.toNat - 1) by omega)

theorem exec_ldBcd_inside (h : s.I.toNat + 2 ≤ 4095) : exec (.ldBcd x) s =
    .next (s.withMem (s.mem.writeBytes s.I.toNat (bcdDigits (s.readV x)))).advance :=
  State.guarded_inside (show s.I.toNat + 2 < 4096 by omega)

theorem exec_ldBcd_outside (h : 4095 < s.I.toNat + 2) : exec (.ldBcd x) s = .next (s.raise .memoryBounds) :=
  State.guarded_outside (show 4096 ≤ s.I.toNat + 2 by omega)

theorem exec_storeRegs_inside (h : s.I.toNat + x.val ≤ 4095) : exec (.storeRegs x) s = .next (s.afterStore x) :=
  State.guarded_inside (show s.I.toNat + x.val < 4096 by omega)

theorem exec_storeRegs_outside (h : 4095 < s.I.toNat + x.val) : exec (.storeRegs x) s = .next (s.raise .memoryBounds) :=
  State.guarded_outside (show 4096 ≤ s.I.toNat + x.val by omega)

theorem exec_loadRegs_inside (h : s.I.toNat + x.val ≤ 4095) : exec (.loadRegs x) s = .next (s.afterLoad x) :=
  State.guarded_inside (show s.I.toNat + x.val < 4096 by omega)

theorem exec_loadRegs_outside (h : 4095 < s.I.toNat + x.val) : exec (.loadRegs x) s = .next (s.raise .memoryBounds) :=
  State.guarded_outside (show 4096 ≤ s.I.toNat + x.val by omega)

/-- An instruction that meets a condition of R271 takes the fault and does nothing else. -/
theorem exec_raising {i : Instr} {r : Fault} (h : i.raises s = some r) : exec i s = .next (s.raise r) := by
  cases i with
  | call nnn =>
    obtain ⟨hsp, rfl⟩ : s.sp.val = 16 ∧ .stackOverflow = r := by simpa [Instr.raises] using h
    exact exec_call_full nnn hsp
  | ret =>
    obtain ⟨hsp, rfl⟩ : s.sp.val = 0 ∧ .stackUnderflow = r := by simpa [Instr.raises] using h
    exact exec_ret_empty hsp
  | drw x y n =>
    obtain ⟨⟨hn, hI⟩, rfl⟩ : (1 ≤ n.toNat ∧ 4095 < s.I.toNat + n.toNat - 1) ∧ .memoryBounds = r := by
      simpa only [Instr.raises, Option.ite_none_right_eq_some, Option.some.injEq] using h
    exact exec_drw_outside hn hI
  | ldBcd x =>
    obtain ⟨hI, rfl⟩ : 4095 < s.I.toNat + 2 ∧ .memoryBounds = r := by
      simpa only [Instr.raises, Option.ite_none_right_eq_some, Option.some.injEq] using h
    exact exec_ldBcd_outside hI
  | storeRegs x =>
    obtain ⟨hI, rfl⟩ : 4095 < s.I.toNat + x.val ∧ .memoryBounds = r := by
      simpa only [Instr.raises, Option.ite_none_right_eq_some, Option.some.injEq] using h
    exact exec_storeRegs_outside hI
  | loadRegs x =>
    obtain ⟨hI, rfl⟩ : 4095 < s.I.toNat + x.val ∧ .memoryBounds = r := by
      simpa only [Instr.raises, Option.ite_none_right_eq_some, Option.some.injEq] using h
    exact exec_loadRegs_outside hI
  | _ => cases h

end Raising

end Sys2Proof.Machine
end

section
/-! Every instruction that does not raise, said once: where pc goes, what is written, that memory keeps its form
(spec/40_step_cycle.md R126 to R130). The rules of the whole machine follow. -/

namespace Sys2Proof

/-- What an instruction may write when it does not raise: a raising one then touches neither the latch nor the outputs. -/
def Instr.completedParts : Instr → List Machine.Part
  | .ret | .call _ => [.callStack]
  | .drw _ _ _ => [.display]
  | .ldBcd _ | .storeRegs _ => [.memory]
  | .loadRegs _ => []
  | i => i.touches

theorem Instr.completedParts_subset_touches (i : Instr) : i.completedParts ⊆ i.touches := by
  cases i <;> simp [completedParts, touches]

theorem Instr.latch_notMem_completedParts (i : Instr) : .latch ∉ i.completedParts := by
  cases i <;> simp [completedParts, touches]

/-! The tables of Safety.lean, read from the part to the instructions that name it. -/

theorem Instr.eq_ldDtVx_of_mem {i : Instr} (h : .delayTimer ∈ i.touches) : ∃ x, i = .ldDtVx x := by
  cases i <;> simp_all [touches]

theorem Instr.eq_ldStVx_of_mem {i : Instr} (h : .soundTimer ∈ i.touches) : ∃ x, i = .ldStVx x := by
  cases i <;> simp_all [touches]

theorem Instr.accumulator_notMem_touches (i : Instr) : .accumulator ∉ i.touches := by
  cases i <;> simp [touches]

theorem Instr.inputs_notMem_touches (i : Instr) : .inputs ∉ i.touches := by
  cases i <;> simp [touches]

theorem Instr.eq_ldVxKey_of_mem {i : Instr} (h : .waitState ∈ i.touches) : ∃ x, i = .ldVxKey x := by
  cases i <;> simp_all [touches]

theorem Instr.ret_or_call_of_mem {i : Instr} (h : .callStack ∈ i.touches) : i = .ret ∨ ∃ nnn, i = .call nnn := by
  cases i <;> simp_all [touches]

/-- A raising instruction has the latch and the outputs among its parts (R271). -/
theorem Instr.latch_outputs_subset_touches {i : Instr} {s : Machine.State} {r : Machine.Fault}
    (h : i.raises s = some r) : [.latch, .outputs] ⊆ i.touches := by
  cases i <;> simp_all [raises, touches]

/-- Only these report something when they complete (R125, R128, R234). -/
theorem Instr.reports_of_mem {i : Instr} (h : .outputs ∈ i.completedParts) :
    i = .halt ∨ (∃ x, i = .ldVxKey x) ∨ i.isUnknown = true := by
  cases i <;> simp_all [completedParts, touches, isUnknown]

namespace Machine

/-! ### Where pc goes -/

theorem State.skipIf_pc_toNat (s : State) {b : Bool} {c : Prop} [Decidable c] (h : b = true ↔ c) :
    (s.skipIf b).pc.toNat = skipTarget s c := by
  rw [State.skipIf_pc, skipTarget]
  by_cases hc : c
  · rw [if_pos (h.2 hc), if_pos hc, BitVec.toNat_add]
    rfl
  · rw [if_neg fun hb => hc (h.1 hb), if_neg hc, BitVec.toNat_add]
    rfl

@[simp] theorem lowNibble_val (v : Byte) : (lowNibble v).val = v.toNat % 16 := by
  rw [lowNibble, BitVec.val_toFin, BitVec.extractLsb'_toNat, Nat.shiftRight_zero]

theorem State.keyDown_lowNibble (s : State) (v : Byte) :
    s.keyDown (lowNibble v) = s.inp.keys.getLsbD (v.toNat % 16) := by
  rw [State.keyDown, lowNibble_val]

theorem jumpSum_toNat (nnn : Imm12) (v : Byte) : (zext16 nnn + zext16 v).toNat = nnn.toNat + v.toNat := by
  rw [BitVec.toNat_add, zext16_toNat (by decide), zext16_toNat (by decide)]
  omega

theorem State.pollKey_pc_toNat (s : State) (x : RegNum) : (s.pollKey x).pc.toNat =
    if s.inp.keyEvent = none then s.pc.toNat else (s.pc.toNat + 2) % 65536 := by
  cases h : s.inp.keyEvent with
  | none => rw [State.pollKey_none s x h, if_pos rfl, State.strobeKeyPoll_pc]
  | some k =>
    rw [State.pollKey_some s x k h, if_neg (by simp), State.advance_pc_toNat]
    rfl

@[simp] theorem State.pollKey_mem (s : State) (x : RegNum) : (s.pollKey x).mem = s.mem := by
  cases h : s.inp.keyEvent with
  | none => rw [State.pollKey_none s x h, State.strobeKeyPoll_mem]
  | some k => simp [State.pollKey_some s x k h]

/-! ### The stores and the load -/

theorem bcdDigits_length (v : Byte) : (bcdDigits v).length = 3 := rfl

/-- The load writes V0 to VX (R196). -/
theorem loadRange_getElem {m : Memory} {a : Nat} {v : RegFile} (x k : RegNum) :
    (loadRange m a v (x.val + 1))[k] = if k ≤ x then m.read (a + k.val) else v[k] := by
  rw [getElem_loadRange (x.val + 1) (by omega) k]
  exact if_congr (by rw [Fin.le_def]; omega) rfl rfl

theorem State.loadRange_frame (s : State) (x : RegNum) (a : Nat) :
    FrameBut ((List.finRange 16).filter (· ≤ x)) [] s (s.withV (loadRange s.mem a s.V (x.val + 1))) := by
  refine s.withV_frame fun k hk => ?_
  have hkx : ¬ k ≤ x := by simpa using hk
  rw [loadRange_getElem, if_neg hkx]
  rfl

/-! ### All instructions -/

/-- `t` is where an instruction that does not raise leads from `s`. -/
structure Completes (i : Instr) (s t : State) : Prop where
  pc : t.pc.toNat = i.pcAfter s
  frame : FrameBut i.dests i.completedParts s t
  memForm : s.mem.wf = true → t.mem.wf = true

theorem exec_completes_exists (i : Instr) (s : State) (h : i.raises s = none) :
    ∃ t, exec i s = .next t ∧ Completes i s t := by
  cases i with
  | halt => exact ⟨_, exec_halt s, rfl, s.report_frame _, id⟩
  | cls => exact ⟨_, exec_cls s, State.advance_pc_toNat _, (s.withFb_frame _).setPc _, id⟩
  | ret =>
    have hsp : ¬ s.sp.val = 0 := by simpa [Instr.raises] using h
    have hlt := s.sp.isLt
    have hk : s.sp.val = (⟨s.sp.val - 1, by omega⟩ : Fin 16).val + 1 := by simp only; omega
    refine ⟨_, exec_ret_held hk, ?_, (s.withStack_frame _ _).setPc _, id⟩
    simp [Instr.pcAfter, Nat.pos_of_ne_zero hsp]
  | jp nnn => exact ⟨_, exec_jp nnn s, zext16_toNat (by decide) nnn, (FrameBut.refl [] [] s).setPc _, id⟩
  | call nnn =>
    have hsp : ¬ s.sp.val = 16 := by simpa [Instr.raises] using h
    have hlt := s.sp.isLt
    exact ⟨_, exec_call_room nnn (by omega), zext16_toNat (by decide) nnn, (s.withStack_frame _ _).setPc _, id⟩
  | seImm x kk => exact ⟨_, exec_seImm s x kk, s.skipIf_pc_toNat beq_iff_eq, s.skipIf_frame _, id⟩
  | sneImm x kk => exact ⟨_, exec_sneImm s x kk, s.skipIf_pc_toNat bne_iff_ne, s.skipIf_frame _, id⟩
  | seReg x y n => exact ⟨_, exec_seReg s x y n, s.skipIf_pc_toNat beq_iff_eq, s.skipIf_frame _, id⟩
  | sneReg x y n => exact ⟨_, exec_sneReg s x y n, s.skipIf_pc_toNat bne_iff_ne, s.skipIf_frame _, id⟩
  | ldImm x kk => exact ⟨_, exec_ldImm x kk s, s.finish_pc_toNat x _, s.finish_frame x _, id⟩
  | addImm x kk => exact ⟨_, exec_addImm x kk s, s.finish_pc_toNat x _, s.finish_frame x _, id⟩
  | ldReg x y => exact ⟨_, exec_ldReg s x y, s.finish_pc_toNat x _, s.finish_frame x _, id⟩
  | orReg x y => exact ⟨_, exec_orReg s x y, s.finish_pc_toNat x _, s.finish_frame x _, id⟩
  | andReg x y => exact ⟨_, exec_andReg s x y, s.finish_pc_toNat x _, s.finish_frame x _, id⟩
  | xorReg x y => exact ⟨_, exec_xorReg s x y, s.finish_pc_toNat x _, s.finish_frame x _, id⟩
  | rnd x kk => exact ⟨_, exec_rnd s x kk, s.finish_pc_toNat x _, s.finish_frame x _, id⟩
  | ldVxDt x => exact ⟨_, exec_ldVxDt s x, s.finish_pc_toNat x _, s.finish_frame x _, id⟩
  | addReg x y => exact ⟨_, exec_addReg s x y, State.advance_pc_toNat _, s.finishFlag_frame x _ _, id⟩
  | subReg x y => exact ⟨_, exec_subReg s x y, State.advance_pc_toNat _, s.finishFlag_frame x _ _, id⟩
  | shr x y => exact ⟨_, exec_shr s x y, State.advance_pc_toNat _, s.finishFlag_frame x _ _, id⟩
  | subnReg x y => exact ⟨_, exec_subnReg s x y, State.advance_pc_toNat _, s.finishFlag_frame x _ _, id⟩
  | shl x y => exact ⟨_, exec_shl s x y, State.advance_pc_toNat _, s.finishFlag_frame x _ _, id⟩
  | ldI nnn => exact ⟨_, exec_ldI s nnn, State.advance_pc_toNat _, (s.writeI_frame _).setPc _, id⟩
  | addI x => exact ⟨_, exec_addI s x, State.advance_pc_toNat _, (s.writeI_frame _).setPc _, id⟩
  | ldFont x => exact ⟨_, exec_ldFont s x, State.advance_pc_toNat _, (s.writeI_frame _).setPc _, id⟩
  | jpV0 nnn =>
    refine ⟨_, exec_jpV0 s nnn, ?_, (FrameBut.refl [] [] s).setPc _, id⟩
    rw [State.setPc_pc, jumpSum_toNat, Instr.pcAfter]
    omega
  | drw x y n =>
    have hI : ¬ (1 ≤ n.toNat ∧ 4095 < s.I.toNat + n.toNat - 1) := by
      simpa only [Instr.raises, ite_eq_right_iff, reduceCtorEq, imp_false] using h
    exact ⟨_, exec_drw_inside (by omega), State.advance_pc_toNat _, s.afterDraw_frame _, id⟩
  | skp x =>
    exact ⟨_, exec_skp s x, s.skipIf_pc_toNat (by rw [State.keyDown_lowNibble]), s.skipIf_frame _, id⟩
  | sknp x =>
    exact ⟨_, exec_sknp s x, s.skipIf_pc_toNat (by rw [State.keyDown_lowNibble, Bool.not_eq_true']), s.skipIf_frame _, id⟩
  | ldVxKey x =>
    refine ⟨_, exec_ldVxKey s x, State.pollKey_pc_toNat _ x, ?_, fun hm => by rwa [State.pollKey_mem]⟩
    have hparts : [.waitState] ⊆ [Part.waitState, .outputs] := by simp
    exact ((s.setWait_frame (some x)).mono (List.nil_subset _) hparts).trans (State.pollKey_frame _ x)
  | ldDtVx x => exact ⟨_, exec_ldDtVx s x, State.advance_pc_toNat _, (s.writeDT_frame _).setPc _, id⟩
  | ldStVx x => exact ⟨_, exec_ldStVx s x, State.advance_pc_toNat _, (s.writeST_frame _).setPc _, id⟩
  | ldBcd x =>
    have hI : ¬ 4095 < s.I.toNat + 2 := by simpa only [Instr.raises, ite_eq_right_iff, reduceCtorEq, imp_false] using h
    exact ⟨_, exec_ldBcd_inside (by omega), State.advance_pc_toNat _, (s.withMem_frame _).setPc _,
      fun hm => Memory.wf_writeBytes hm (show s.I.toNat + 3 ≤ 4096 by omega)⟩
  | storeRegs x =>
    have hI : ¬ 4095 < s.I.toNat + x.val := by
      simpa only [Instr.raises, ite_eq_right_iff, reduceCtorEq, imp_false] using h
    exact ⟨_, exec_storeRegs_inside (by omega), State.advance_pc_toNat _, (s.withMem_frame _).setPc _,
      fun hm => wf_storeRange hm _ (show s.I.toNat + (x.val + 1) ≤ 4096 by omega)⟩
  | loadRegs x =>
    have hI : ¬ 4095 < s.I.toNat + x.val := by
      simpa only [Instr.raises, ite_eq_right_iff, reduceCtorEq, imp_false] using h
    exact ⟨_, exec_loadRegs_inside (by omega), State.advance_pc_toNat _, (s.loadRange_frame x _).setPc _, id⟩
  | unk0 _ | unk8 _ _ _ | unkE _ _ | unkF _ _ =>
    exact ⟨_, exec_unknown s rfl, State.advance_pc_toNat _, s.unknownNoOp_frame, id⟩

/-- What is known of the state an instruction leads to. -/
theorem exec_completes {i : Instr} {s t : State} (h : exec i s = .next t) (hr : i.raises s = none) : Completes i s t := by
  obtain ⟨u, hu, hc⟩ := exec_completes_exists i s hr
  obtain rfl : u = t := next_unique hu h
  exact hc

/-- Every instruction raises or completes (R129, R130). -/
theorem exec_cases {i : Instr} {s t : State} (h : exec i s = .next t) :
    (∃ r, i.raises s = some r ∧ t = s.raise r) ∨ (i.raises s = none ∧ Completes i s t) := by
  cases hr : i.raises s with
  | some r => exact .inl ⟨r, rfl, next_unique h (exec_raising hr)⟩
  | none => exact .inr ⟨rfl, exec_completes h hr⟩

theorem exec_next (i : Instr) (s : State) : ∃ t, exec i s = .next t := by
  cases hr : i.raises s with
  | some r => exact ⟨_, exec_raising hr⟩
  | none =>
    obtain ⟨t, ht, -⟩ := exec_completes_exists i s hr
    exact ⟨t, ht⟩

theorem Completes.fault_eq {i : Instr} {s t : State} (h : Completes i s t) : t.fault = s.fault :=
  h.frame.2 .latch i.latch_notMem_completedParts

/-- The frame of every instruction, whether it raises or completes. -/
theorem exec_frame {i : Instr} {s t : State} (h : exec i s = .next t) : FrameBut i.dests i.touches s t := by
  obtain ⟨r, hr, rfl⟩ | ⟨-, hc⟩ := exec_cases h
  · exact (s.raise_frame r).mono (List.nil_subset _) (Instr.latch_outputs_subset_touches hr)
  · exact hc.frame.mono (List.Subset.refl _) i.completedParts_subset_touches

/-! ### The inputs reach their readers only (R41 to R43) -/

/-- A state with other inputs of the step in progress. -/
def State.withInp (s : State) (j : StepInput) : State := { s with inp := j }

theorem State.guarded_withInp {s t access : State} {top : Nat} (j : StepInput) (h : s.guarded top access = .next t) :
    (s.withInp j).guarded top (access.withInp j) = .next (t.withInp j) := by
  by_cases hI : s.I.toNat + top < Config.memSize
  · obtain rfl := next_unique (State.guarded_inside hI) h
    exact State.guarded_inside hI
  · have hI' : Config.memSize ≤ s.I.toNat + top := Nat.le_of_not_lt hI
    obtain rfl := next_unique (State.guarded_outside hI') h
    exact State.guarded_outside hI'

theorem State.pollKey_withInp (s : State) (x : RegNum) (j : StepInput) (h : s.inp.keyEvent = j.keyEvent) :
    (s.withInp j).pollKey x = (s.pollKey x).withInp j := by
  cases hk : s.inp.keyEvent with
  | none =>
    rw [State.pollKey_none s x hk, State.pollKey_none (s.withInp j) x (h.symm.trans hk)]
    rfl
  | some k =>
    rw [State.pollKey_some s x k hk, State.pollKey_some (s.withInp j) x k (h.symm.trans hk)]
    rfl

/-- An instruction does the same under other inputs of which it reads none that differ. -/
theorem exec_withInp {i : Instr} {s t : State} {j : StepInput} (hj : i.SameInputs s.inp j) (h : exec i s = .next t) :
    exec i (s.withInp j) = .next (t.withInp j) := by
  cases i with
  | rnd x kk =>
    obtain rfl := Host.Outcome.next.inj h
    have hrand : s.inp.rand = j.rand := hj
    rw [exec_rnd, hrand]
    rfl
  | skp x | sknp x =>
    obtain rfl := Host.Outcome.next.inj h
    have hkeys : s.inp.keys = j.keys := hj
    simp only [exec_skp, exec_sknp, State.keyDown, hkeys]
    rfl
  | ldVxKey x =>
    obtain rfl := Host.Outcome.next.inj h
    exact congrArg _ ((s.setWait (some x)).pollKey_withInp x j hj)
  | call nnn =>
    by_cases hsp : s.sp.val < 16
    · obtain rfl := next_unique (exec_call_room nnn hsp) h
      exact exec_call_room (s := s.withInp j) nnn hsp
    · have hfull : s.sp.val = 16 := by have := s.sp.isLt; omega
      obtain rfl := next_unique (exec_call_full nnn hfull) h
      exact exec_call_full (s := s.withInp j) nnn hfull
  | ret =>
    by_cases hsp : s.sp.val = 0
    · obtain rfl := next_unique (exec_ret_empty hsp) h
      exact exec_ret_empty (s := s.withInp j) hsp
    · obtain ⟨k, hk⟩ : ∃ k : Fin 16, s.sp.val = k.val + 1 := ⟨⟨s.sp.val - 1, by omega⟩, by simp only; omega⟩
      obtain rfl := next_unique (exec_ret_held hk) h
      exact exec_ret_held (s := s.withInp j) hk
  | drw x y n =>
    by_cases hn : n.toNat = 0
    · obtain rfl := next_unique (exec_drw_inside (.inl hn)) h
      exact exec_drw_inside (s := s.withInp j) (.inl hn)
    · simp only [exec, execDrw, if_neg hn] at h ⊢
      exact State.guarded_withInp j h
  | ldBcd x | storeRegs x | loadRegs x => exact State.guarded_withInp j h
  | _ =>
    obtain rfl := Host.Outcome.next.inj h
    rfl

/-! ### The statements about all instructions -/

/-- Settles O55: the frame of every instruction, its parts. -/
theorem onlyNamedPartsAreWritten : Obligations.OnlyNamedPartsAreWritten := fun _ _ _ h => (exec_frame h).2

/-- Settles O56: the frame of every instruction, its registers. -/
theorem onlyNamedRegistersAreWritten : Obligations.OnlyNamedRegistersAreWritten := fun _ _ _ h => (exec_frame h).1

/-- Settles O57: a raising instruction is the raise, a completing one keeps the latch. -/
theorem faultsAreListedAndPrecise : Obligations.FaultsAreListedAndPrecise := by
  intro i s
  obtain ⟨t, ht⟩ := exec_next i s
  refine ⟨t, ht, fun r hr => ?_, fun hr => (exec_completes ht hr).fault_eq⟩
  obtain rfl := next_unique (exec_raising hr) ht
  exact ⟨rfl, rfl, rfl, s.raise_frame r⟩

/-- Settles O58: a completing instruction moves pc as the table says, a raise leaves it. -/
theorem pcMovesAsTheTableSays : Obligations.PcMovesAsTheTableSays := by
  intro i s t ht
  refine ⟨fun hr => (exec_completes ht hr).pc, fun hr => ?_⟩
  obtain ⟨r, -, rfl⟩ | ⟨hnone, -⟩ := exec_cases ht
  · rfl
  · exact absurd hnone hr

/-- Settles O59: the run commutes with replacing the inputs. -/
theorem inputsReachOnlyTheirReaders : Obligations.InputsReachOnlyTheirReaders := fun _ _ _ _ hj h => exec_withInp hj h

end Machine
end Sys2Proof
end

section
/-! The timer accumulator (spec/46_timers.md R251 to R254): paying out time is additive. -/

namespace Sys2Proof.Machine

theorem tickDown_tickDown (t : Byte) (a b : Nat) : tickDown (tickDown t a) b = tickDown t (a + b) :=
  BitVec.eq_of_toNat_eq (by rw [tickDown_toNat, tickDown_toNat, tickDown_toNat, Nat.sub_sub])

theorem tickDown_zero (t : Byte) : tickDown t 0 = t :=
  BitVec.eq_of_toNat_eq (by rw [tickDown_toNat, Nat.sub_zero])

/-- The timers replaced: DT, ST and the accumulator. -/
def State.withTimers (s : State) (dt st : Byte) (acc : Fin 50) : State := { s with DT := dt, ST := st, acc3 := acc }

theorem State.advanceTimers_eq (s : State) (e : Nat) : s.advanceTimers e =
    s.withTimers (tickDown s.DT ((s.acc3.val + 3 * e) / 50)) (tickDown s.ST ((s.acc3.val + 3 * e) / 50))
      ⟨(s.acc3.val + 3 * e) % 50, Nat.mod_lt _ (by decide)⟩ := rfl

/-- The ticks of two payments add up, and so does what is carried on (R253). -/
theorem State.advanceTimers_add (s : State) (a b : Nat) :
    (s.advanceTimers a).advanceTimers b = s.advanceTimers (a + b) := by
  have hticks : (s.acc3.val + 3 * a) / 50 + ((s.acc3.val + 3 * a) % 50 + 3 * b) / 50 = (s.acc3.val + 3 * (a + b)) / 50 := by
    omega
  have hcarry : ((s.acc3.val + 3 * a) % 50 + 3 * b) % 50 = (s.acc3.val + 3 * (a + b)) % 50 := by omega
  simp only [State.advanceTimers_eq, State.withTimers, tickDown_tickDown, hticks, hcarry]

theorem State.advanceTimers_zero (s : State) : s.advanceTimers 0 = s := by
  have hlt := s.acc3.isLt
  have hticks : (s.acc3.val + 3 * 0) / 50 = 0 := by omega
  have hcarry : (s.acc3.val + 3 * 0) % 50 = s.acc3.val := by omega
  simp only [State.advanceTimers_eq, State.withTimers, hticks, hcarry, tickDown_zero]

theorem State.foldl_advanceTimers (s : State) (es : List Nat) :
    es.foldl State.advanceTimers s = s.advanceTimers es.sum := by
  induction es generalizing s with
  | nil => exact s.advanceTimers_zero.symm
  | cons e es ih => rw [List.foldl_cons, ih, State.advanceTimers_add, List.sum_cons]

/-- Settles O23: ticks and carry of two payments add up. -/
theorem timerAdvanceIsAdditive : Obligations.TimerAdvanceIsAdditive := State.advanceTimers_add

/-- Settles O24: however split, it is one payment of 3000 thirds of a millisecond, sixty quanta of 50. -/
theorem sixtyTicksInAThousandMs : Obligations.SixtyTicksInAThousandMs := by
  intro s es hsum
  have hlt := s.acc3.isLt
  have hticks : (s.acc3.val + 3 * 1000) / 50 = 60 := by omega
  have hcarry : (s.acc3.val + 3 * 1000) % 50 = s.acc3.val := by omega
  rw [State.foldl_advanceTimers, hsum, State.advanceTimers_DT, State.advanceTimers_ST, State.advanceTimers_acc3, hticks,
    tickDown_toNat, tickDown_toNat]
  exact ⟨rfl, rfl, Fin.ext hcarry⟩

end Sys2Proof.Machine
end

section
/-! Construction, which is the reset (spec/70_reset_and_hazards.md R300 to R305), and the invariant at every start of a run. -/

namespace Sys2Proof.Machine

/-- The memory construction leaves: the font from 0x000, the image from 0x200 (R300). -/
def loadedMemory (font : Vector Byte 80) (img : List Byte) : Memory :=
  (Memory.writeBytes [] Config.fontBase font.toList).writeBytes Config.progBase img

section Loaded

variable {font : Vector Byte 80} {img : List Byte}

theorem construct_accepted (h : img.length ≤ 3584) :
    construct font img = .ok (State.reset.withMem (loadedMemory font img)) := if_pos h

theorem construct_rejected (h : 3584 < img.length) : construct font img = .error .imageTooLarge :=
  if_neg (Nat.not_le.mpr h)

theorem construct_eq_ok {t : State} (h : construct font img = .ok t) :
    img.length ≤ 3584 ∧ t = State.reset.withMem (loadedMemory font img) := by
  by_cases hlen : img.length ≤ 3584
  · exact ⟨hlen, Except.ok.inj (h.symm.trans (construct_accepted hlen))⟩
  · rw [construct_rejected (Nat.lt_of_not_le hlen)] at h
    cases h

theorem image_fits (h : img.length ≤ 3584) : Config.progBase + img.length ≤ Config.memSize :=
  show 512 + img.length ≤ 4096 by omega

theorem wf_fontMemory (font : Vector Byte 80) : (Memory.writeBytes [] Config.fontBase font.toList).wf = true :=
  Memory.wf_writeBytes rfl (by rw [Vector.length_toList]; decide)

theorem wf_loadedMemory (h : img.length ≤ 3584) : (loadedMemory font img).wf = true :=
  Memory.wf_writeBytes (wf_fontMemory font) (image_fits h)

/-- What memory reads as after construction (R300, R301). -/
theorem read_loadedMemory (h : img.length ≤ 3584) (a : Nat) : (loadedMemory font img).read a =
    if 512 ≤ a ∧ a < 512 + img.length then img.getD (a - 512) 0
    else if a < 80 then font.toList.getD a 0 else Memory.background a := by
  rw [loadedMemory, Memory.read_writeBytes (wf_fontMemory font) (image_fits h),
    Memory.read_writeBytes rfl (by rw [Vector.length_toList]; decide)]
  simp [Config.progBase, Config.fontBase, Memory.read]

theorem background_above {a : Nat} (h : 80 ≤ a) : Memory.background a = 0 :=
  List.getD_eq_default _ _ h

theorem read_loadedMemory_font (h : img.length ≤ 3584) (a : Fin 80) : (loadedMemory font img).read a.val = font[a] := by
  rw [read_loadedMemory h, if_neg (by omega), if_pos a.isLt]
  simp

theorem read_loadedMemory_image (h : img.length ≤ 3584) (i : Nat) (hi : i < img.length) :
    (loadedMemory font img).read (0x200 + i) = img[i] := by
  rw [read_loadedMemory h, if_pos (by omega), Nat.add_sub_cancel_left]
  exact (List.getElem_eq_getD 0).symm

theorem read_loadedMemory_elsewhere (h : img.length ≤ 3584) (a : Nat) (ha : 80 ≤ a)
    (hout : a < 0x200 ∨ 0x200 + img.length ≤ a) : (loadedMemory font img).read a = 0 := by
  rw [read_loadedMemory h, if_neg (by omega), if_neg (by omega), background_above ha]

end Loaded

/-- The default font is the background of memory, so writing it lists no cell. -/
theorem loadedMemory_default : loadedMemory defaultFont [] = [] := by decide

theorem construct_default : construct defaultFont [] = .ok State.reset := by
  rw [construct_accepted (Nat.zero_le _), loadedMemory_default]
  rfl

theorem reset_readV (k : RegNum) : State.reset.readV k = 0 := Vector.getElem_replicate _

theorem reset_stack (k : Fin 16) : State.reset.stack[k] = 0 := Vector.getElem_replicate _

theorem reset_pixel (x : Fin 64) (y : Fin 32) : State.reset.fb.pixel x y = false := Framebuffer.pixel_blank x y

/-- Settles O8: the reset state with the loaded memory. -/
theorem constructionPlacesFontAndImage : Obligations.ConstructionPlacesFontAndImage := by
  intro font img hlen
  exact ⟨_, construct_accepted hlen, read_loadedMemory_font hlen, read_loadedMemory_image hlen,
    read_loadedMemory_elsewhere hlen, reset_readV, rfl, rfl, rfl, reset_stack, rfl, rfl, rfl, reset_pixel, rfl, rfl⟩

/-- Settles O7: the values are those of construction with the default font and no image. -/
theorem resetLeavesTheseValues : Obligations.ResetLeavesTheseValues := by
  obtain ⟨t, ht, hfont, -, helse, hrest⟩ := constructionPlacesFontAndImage defaultFont [] (Nat.zero_le _)
  obtain rfl : State.reset = t := Except.ok.inj (construct_default.symm.trans ht)
  obtain ⟨hV, hI, hpc, hsp, hstack, hDT, hST, hacc, hfb, hwait, hfault⟩ := hrest
  exact ⟨ht, hV, hI, hpc, hsp, hstack, hDT, hST, hacc, hfb, hfont,
    fun a ha => helse a ha (Nat.lt_or_ge a 0x200), hwait, hfault⟩

/-- Settles O9: the length alone decides. -/
theorem oversizedImageIsRejected : Obligations.OversizedImageIsRejected := by
  intro font img
  refine ⟨construct_rejected, fun hlen => ⟨_, construct_accepted hlen, fun hfull i hi => ?_⟩⟩
  exact ⟨read_loadedMemory_image hlen i hi, by omega⟩

/-- Settles O11: memory was written inside its bounds only, and everything else is as at reset. -/
theorem invariantHoldsAfterConstruction : Obligations.InvariantHoldsAfterConstruction := by
  intro font img t ht
  obtain ⟨hlen, rfl⟩ := construct_eq_ok ht
  exact {
    memForm := wf_loadedMemory hlen
    pcBound := show State.reset.pc.toNat ≤ 0x10FE by decide
    slotBound := fun k => (congrArg BitVec.toNat (reset_stack k)).trans_le (Nat.zero_le _)
    waiting := fun x hx => by cases hx }

/-- Settles O10: reset is a construction. -/
theorem invariantHoldsAtReset : Obligations.InvariantHoldsAtReset :=
  invariantHoldsAfterConstruction defaultFont [] State.reset construct_default

end Sys2Proof.Machine
end

section
/-! The step (spec/40_step_cycle.md R120): what the phases before the fetch leave alone, which word is fetched, and the
statements about one step from any state. -/

namespace Sys2Proof.Machine

/-! ### The word fetched (R62, R124) -/

theorem joinBytes_eq_ofNat (hi lo : Byte) : joinBytes hi lo = BitVec.ofNat 16 (256 * hi.toNat + lo.toNat) :=
  BitVec.eq_of_toNat_eq (by rw [joinBytes_toNat, BitVec.toNat_ofNat]; omega)

theorem State.wordAt_lt (s : State) (a : Nat) : s.wordAt a < 65536 := by
  unfold State.wordAt
  omega

theorem fetch_of_pc_le {s : State} (h : s.pc.toNat ≤ 4094) :
    s.fetch = some (BitVec.ofNat 16 (s.wordAt s.pc.toNat)) := by
  rw [fetch_inside (show s.pc.toNat + 1 < 4096 by omega), joinBytes_eq_ofNat]
  rfl

theorem fetch_of_lt_pc {s : State} (h : 4094 < s.pc.toNat) : s.fetch = none :=
  fetch_outside (show 4096 ≤ s.pc.toNat + 1 by omega)

theorem pc_le_of_fetch {s : State} {w : Word} (h : s.fetch = some w) : s.pc.toNat ≤ 4094 := by
  by_contra hpc
  rw [fetch_of_lt_pc (Nat.lt_of_not_le hpc)] at h
  cases h

/-- Only memory and pc matter to the fetch. -/
theorem fetch_congr {s t : State} (hmem : t.mem = s.mem) (hpc : t.pc = s.pc) : t.fetch = s.fetch := by
  rw [State.fetch, State.fetch, hmem, hpc]

/-- The sentinel is the zero word and no other (R102). -/
theorem decodeWord_eq_halt_iff (w : Word) : decodeWord w = .halt ↔ w = 0x0000#16 := by
  constructor
  · intro h
    rw [← encode_decodeWord w, h]
    rfl
  · rintro rfl
    decide

/-! ### The state prepared for the fetch (R122) -/

theorem State.prepared_elapsedMs (s : State) : s.prepared.inp.elapsedMs = s.elapsedNext := by
  cases h : s.pending with
  | cons i rest => rw [(s.prepared_inputs_cons h).1, State.elapsedNext, h]
  | nil => rw [(s.prepared_inputs_nil h).1, State.elapsedNext, h, freeInput]

theorem State.prepared_frame (s : State) :
    FrameBut [] [.delayTimer, .soundTimer, .accumulator, .inputs, .outputs] s s.prepared :=
  ⟨fun k _ => s.prepared_readV k, fun p hp => by cases p <;> simp_all [Part.Same]⟩

/-! ### What a poll and an execution report -/

theorem State.pollKey_out (s : State) (x : RegNum) :
    (s.pollKey x).out = ⟨s.out.outcome, true, s.out.unknownOp⟩ := by
  cases h : s.inp.keyEvent with
  | none => rw [State.pollKey_none s x h, State.strobeKeyPoll_out]
  | some k => simp [State.pollKey_some s x k h]

@[simp] theorem State.pollKey_fault (s : State) (x : RegNum) : (s.pollKey x).fault = s.fault :=
  (s.pollKey_frame x).2 .latch (by simp)

@[simp] theorem State.pollKey_stack (s : State) (x : RegNum) : (s.pollKey x).stack = s.stack :=
  ((s.pollKey_frame x).2 .callStack (by simp)).1

/-- An instruction that completes reports nothing new, except for the sentinel (R129). -/
theorem exec_outcome {i : Instr} {s t : State} (h : exec i s = .next t) (hr : i.raises s = none) (hi : i ≠ .halt) :
    t.out.outcome = s.out.outcome := by
  by_cases hmem : .outputs ∈ i.completedParts
  · obtain rfl | ⟨x, rfl⟩ | hunknown := Instr.reports_of_mem hmem
    · exact absurd rfl hi
    · obtain rfl := next_unique (exec_ldVxKey s x) h
      rw [State.pollKey_out, State.setWait_out]
    · obtain rfl := next_unique (exec_unknown s hunknown) h
      rw [State.unknownNoOp_out]
  · have hout : t.out = s.out := (exec_completes h hr).frame.2 .outputs hmem
    rw [hout]

/-! ### The statements about every step -/

/-- Settles O13: four kinds of step, each with a next state. -/
theorem everyStepAnswersANextState : Obligations.EveryStepAnswersANextState := by
  intro s
  obtain ⟨r, -, h⟩ | ⟨x, -, -, h⟩ | ⟨-, -, -, h⟩ | ⟨w, -, -, -, h⟩ := step_cases s
  · exact ⟨_, h⟩
  · exact ⟨_, h⟩
  · exact ⟨_, h⟩
  · rw [h]
    exact exec_next _ _

/-- Settles O14: the latched step writes the outputs only. -/
theorem latchedStepChangesNothing : Obligations.LatchedStepChangesNothing := fun s r h =>
  ⟨_, step_latched h, rfl, rfl, s.latchedStep_frame r⟩

/-- Settles O15: the two bytes at pc join to the word fetched. -/
theorem stepRunsTheDecodedInstruction : Obligations.StepRunsTheDecodedInstruction := by
  intro s i hfault hwait hpc hdecode
  have hword : decodeWord (joinBytes (s.mem.read s.pc.toNat) (s.mem.read (s.pc.toNat + 1))) = i :=
    congrArg Prod.fst (Except.ok.inj hdecode)
  rw [← hword]
  exact step_runs hfault hwait (fetch_inside (show s.pc.toNat + 1 < 4096 by omega))

/-- Settles O16: the laws of sampling and of the timer advance. -/
theorem preparationSamplesAndAdvancesTimers : Obligations.PreparationSamplesAndAdvancesTimers := fun s =>
  ⟨fun _ _ h => s.prepared_inputs_cons h, fun h => s.prepared_inputs_nil h, rfl, s.prepared_pc, s.prepared_DT_toNat,
    s.prepared_ST_toNat, s.prepared_acc3_val, s.prepared_frame⟩

/-- Settles O18: the word is there exactly up to 4094. -/
theorem fetchReadsBigEndianOrFaults : Obligations.FetchReadsBigEndianOrFaults := by
  intro s hfault hwait
  refine ⟨fun hpc => step_runs hfault hwait (fetch_of_pc_le hpc), fun hpc => ?_⟩
  exact ⟨_, step_fetch_fault hfault hwait (fetch_of_lt_pc hpc), rfl, rfl, s.prepared_pc, State.raise_frame _ _⟩

/-- A poll with an event writes the key number and moves pc on (R234). -/
theorem State.pollKey_event {s : State} {x : RegNum} {k : Key} (h : s.inp.keyEvent = some k) :
    ((s.pollKey x).readV x).toNat = k.val ∧ (s.pollKey x).wait = none ∧
      (s.pollKey x).pc.toNat = (s.pc.toNat + 2) % 65536 := by
  have hpc := s.pollKey_pc_toNat x
  rw [if_neg (by simp [h])] at hpc
  refine ⟨?_, ?_, hpc⟩
  · rw [State.pollKey_some s x k h, State.advance_readV, State.setWait_readV, State.readV_writeV_same, BitVec.toNat_ofNat]
    omega
  · rw [State.pollKey_some s x k h, State.advance_wait, State.setWait_wait]

/-- Settles O19: the step is the poll of the register waited for. -/
theorem waitingStepPollsForAKey : Obligations.WaitingStepPollsForAKey := by
  intro s x hfault hwait
  refine ⟨fun hevent => ?_, fun k hevent => ?_⟩
  · have hpoll := State.pollKey_none s.prepared x hevent
    have hw : s.prepared.strobeKeyPoll.wait = some x := s.prepared_wait.trans hwait
    exact ⟨_, (step_waiting hfault hwait).trans (congrArg _ hpoll), s.prepared_pc, hw, rfl, State.strobeKeyPoll_frame _⟩
  · obtain ⟨hkey, hwait', hpc⟩ := State.pollKey_event (x := x) hevent
    rw [s.prepared_pc] at hpc
    exact ⟨_, step_waiting hfault hwait, hkey, hwait', hpc, State.pollKey_out _ x, State.pollKey_frame _ x⟩

/-- Settles O20: whichever way the step goes, only a raise sets the latch and says so. -/
theorem faultOutcomeMeansLatched : Obligations.FaultOutcomeMeansLatched := by
  intro s t ht r
  obtain ⟨r', hfault, h⟩ | ⟨x, hfault, -, h⟩ | ⟨-, -, -, h⟩ | ⟨w, hfault, -, -, h⟩ := step_cases s
  · obtain rfl := next_unique h ht
    simp [hfault]
  · obtain rfl := next_unique h ht
    simp [State.pollKey_out, StepOutput.quiet, hfault]
  · obtain rfl := next_unique h ht
    simp
  · obtain ⟨r', -, rfl⟩ | ⟨hnone, hc⟩ := exec_cases (h.symm.trans ht)
    · simp
    · rw [hc.fault_eq, s.prepared_fault, hfault]
      by_cases hi : decodeWord w = .halt
      · rw [hi] at h
        obtain rfl := next_unique h ht
        simp
      · rw [exec_outcome (h.symm.trans ht) hnone hi]
        simp [StepOutput.quiet]

/-- A step on the sentinel (R125). -/
theorem step_zeroWord {s : State} (hfault : s.fault = none) (hwait : s.wait = none) (hfetch : s.fetch = some 0x0000#16) :
    step s = .next (s.prepared.report .halted) := by
  rw [step_runs hfault hwait hfetch, (decodeWord_eq_halt_iff _).2 rfl, exec_halt]

/-- A step that ends halted has fetched the zero word. -/
theorem fetch_of_halted {s t : State} (ht : step s = .next t) (hout : t.out.outcome = .halted) :
    s.fault = none ∧ s.wait = none ∧ s.fetch = some 0x0000#16 := by
  obtain ⟨r, -, h⟩ | ⟨x, -, -, h⟩ | ⟨-, -, -, h⟩ | ⟨w, hfault, hwait, hfetch, h⟩ := step_cases s
  · obtain rfl := next_unique h ht
    cases hout
  · obtain rfl := next_unique h ht
    rw [State.pollKey_out] at hout
    cases hout
  · obtain rfl := next_unique h ht
    cases hout
  · refine ⟨hfault, hwait, ?_⟩
    by_cases hi : decodeWord w = .halt
    · rw [hfetch, (decodeWord_eq_halt_iff w).1 hi]
    · obtain ⟨r, -, rfl⟩ | ⟨hnone, -⟩ := exec_cases (h.symm.trans ht)
      · cases hout
      · rw [exec_outcome (h.symm.trans ht) hnone hi] at hout
        cases hout

theorem fetch_zeroWord_iff (s : State) :
    s.fetch = some 0x0000#16 ↔ s.pc.toNat ≤ 4094 ∧ s.wordAt s.pc.toNat = 0 := by
  constructor
  · intro h
    have hpc := pc_le_of_fetch h
    rw [fetch_of_pc_le hpc, Option.some.injEq, ← BitVec.toNat_inj, BitVec.toNat_ofNat,
      Nat.mod_eq_of_lt (s.wordAt_lt _)] at h
    exact ⟨hpc, h⟩
  · rintro ⟨hpc, hzero⟩
    rw [fetch_of_pc_le hpc, hzero]

/-- Settles O21: only the sentinel reports it, and it is the zero word. -/
theorem haltedExactlyOnAZeroWord : Obligations.HaltedExactlyOnAZeroWord := by
  intro s t ht
  rw [← fetch_zeroWord_iff]
  refine ⟨fetch_of_halted ht, fun ⟨hfault, hwait, hfetch⟩ => ?_⟩
  obtain rfl := next_unique (step_zeroWord hfault hwait hfetch) ht
  rfl

/-- Settles O25: the halt leaves pc and the word under it, so the next step fetches the zero word again. -/
theorem haltStaysInPlace : Obligations.HaltStaysInPlace := by
  refine ⟨fun s => ⟨_, exec_halt s, rfl, rfl, s.report_frame _⟩, fun s t ht hout => ?_⟩
  obtain ⟨hfault, hwait, hfetch⟩ := fetch_of_halted ht hout
  obtain rfl := next_unique (step_zeroWord hfault hwait hfetch) ht
  have hfault' : (s.prepared.report .halted).fault = none := s.prepared_fault.trans hfault
  have hwait' : (s.prepared.report .halted).wait = none := s.prepared_wait.trans hwait
  have hfetch' : (s.prepared.report .halted).fetch = some 0x0000#16 := s.prepared_fetch.trans hfetch
  refine ⟨_, step_zeroWord hfault' hwait' hfetch', rfl, ?_⟩
  rw [State.report_pc, State.prepared_pc, State.report_pc, State.prepared_pc]

/-! ### Timers and inputs in a step -/

/-- An unlatched step either executes one instruction in the prepared state or leaves everything of it but a register, the
wait, the latch and the outputs. -/
theorem step_unlatched_cases {s t : State} (ht : step s = .next t) (hfault : s.fault = none) :
    (∃ regs, FrameBut regs [.waitState, .latch, .outputs] s.prepared t) ∨
    (∃ i, s.fetch.map decodeWord = some i ∧ s.wait = none ∧ exec i s.prepared = .next t) := by
  obtain ⟨r, hlatched, -⟩ | ⟨x, -, -, h⟩ | ⟨-, -, -, h⟩ | ⟨w, -, hwait, hfetch, h⟩ := step_cases s
  · rw [hfault] at hlatched
    cases hlatched
  · obtain rfl := next_unique h ht
    exact .inl ⟨[x], (State.pollKey_frame _ x).mono (List.Subset.refl _) (by simp)⟩
  · obtain rfl := next_unique h ht
    exact .inl ⟨[], (State.raise_frame _ _).mono (List.Subset.refl _) (by simp)⟩
  · exact .inr ⟨decodeWord w, by rw [hfetch]; rfl, hwait, h.symm.trans ht⟩

/-- What the phases after the timers write: not the accumulator, not the inputs, a timer only by its own instruction. -/
theorem step_unlatched_timers {s t : State} (ht : step s = .next t) (hfault : s.fault = none) :
    Part.Same s.prepared t .accumulator ∧ Part.Same s.prepared t .inputs ∧
    (Part.Same s.prepared t .delayTimer ∨
      ∃ x, s.fetch.map decodeWord = some (.ldDtVx x) ∧ s.wait = none ∧ t.DT = s.readV x) ∧
    (Part.Same s.prepared t .soundTimer ∨
      ∃ x, s.fetch.map decodeWord = some (.ldStVx x) ∧ s.wait = none ∧ t.ST = s.readV x) := by
  obtain ⟨regs, -, hparts⟩ | ⟨i, hi, hwait, h⟩ := step_unlatched_cases ht hfault
  · exact ⟨hparts _ (by simp), hparts _ (by simp), .inl (hparts _ (by simp)), .inl (hparts _ (by simp))⟩
  · obtain ⟨-, hparts⟩ := exec_frame h
    refine ⟨hparts _ (Instr.accumulator_notMem_touches i), hparts _ (Instr.inputs_notMem_touches i), ?_, ?_⟩
    · by_cases hmem : .delayTimer ∈ i.touches
      · obtain ⟨x, rfl⟩ := Instr.eq_ldDtVx_of_mem hmem
        obtain rfl := Host.Outcome.next.inj h
        exact .inr ⟨x, hi, hwait, s.prepared_readV x⟩
      · exact .inl (hparts _ hmem)
    · by_cases hmem : .soundTimer ∈ i.touches
      · obtain ⟨x, rfl⟩ := Instr.eq_ldStVx_of_mem hmem
        obtain rfl := Host.Outcome.next.inj h
        exact .inr ⟨x, hi, hwait, s.prepared_readV x⟩
      · exact .inl (hparts _ hmem)

/-- Settles O22: nothing after the timers writes the accumulator or the inputs, and each timer has one writer. -/
theorem everyUnlatchedStepAdvancesTheTimers : Obligations.EveryUnlatchedStepAdvancesTheTimers := by
  intro s t ht hfault
  obtain ⟨hacc, hinputs, hDT, hST⟩ := step_unlatched_timers ht hfault
  have hacc' : t.acc3 = s.prepared.acc3 := hacc
  refine ⟨?_, hinputs, hDT.imp_left fun hsame => ?_, hST.imp_left fun hsame => ?_⟩
  · rw [hacc', s.prepared_acc3_val, s.prepared_elapsedMs]
  · have hDT' : t.DT = s.prepared.DT := hsame
    rw [hDT', s.prepared_DT_toNat, s.prepared_elapsedMs]
    rfl
  · have hST' : t.ST = s.prepared.ST := hsame
    rw [hST', s.prepared_ST_toNat, s.prepared_elapsedMs]
    rfl

end Sys2Proof.Machine
end

section
/-! The invariant of the machine (spec/10_state.md R25, spec/45_keypad.md R235) and the step: one lemma for each thing an
instruction can do to a part the invariant speaks of, then the step keeps it whichever way it goes. -/

namespace Sys2Proof.Machine

/-! ### What an instruction does to the parts of the invariant -/

/-- From a word inside memory pc goes at most to 0xFFF + 0xFF (R25). -/
theorem pcAfter_le {s : State} (i : Instr) (hpc : s.pc.toNat ≤ 4094) (hslots : ∀ k : Fin 16, s.stack[k].toNat ≤ 0x1000) :
    i.pcAfter s ≤ 0x10FE := by
  have hskip : ∀ (c : Prop) [Decidable c], skipTarget s c ≤ 0x10FE := by
    intro c _
    unfold skipTarget
    split <;> omega
  have hnext : (s.pc.toNat + 2) % 65536 ≤ 0x10FE := by omega
  have hstay : s.pc.toNat ≤ 0x10FE := by omega
  cases i with
  | halt => exact hstay
  | jp nnn | call nnn => exact (show nnn.toNat ≤ 0x10FE by omega)
  | ret =>
    simp only [Instr.pcAfter]
    split
    · have hlt := s.sp.isLt
      have hslot := hslots ⟨s.sp.val - 1, by omega⟩
      exact hslot.trans (by decide)
    · exact hstay
  | jpV0 nnn =>
    have hV0 := (s.readV 0).isLt
    exact (show (nnn.toNat + (s.readV 0).toNat) % 65536 ≤ 0x10FE by omega)
  | seImm _ _ | sneImm _ _ | seReg _ _ _ | sneReg _ _ _ | skp _ | sknp _ => exact hskip _
  | ldVxKey _ =>
    simp only [Instr.pcAfter]
    split
    · exact hstay
    · exact hnext
  | _ => exact hnext

/-- Only a call writes a slot, and it writes pc + 2 (R142). -/
theorem exec_stack {i : Instr} {s t : State} (h : exec i s = .next t) :
    t.stack = s.stack ∨ ∃ hsp : s.sp.val < 16, t.stack = s.stack.set s.sp.val (s.pc + 2) := by
  by_cases hmem : .callStack ∈ i.touches
  · obtain rfl | ⟨nnn, rfl⟩ := Instr.ret_or_call_of_mem hmem
    · by_cases hsp : s.sp.val = 0
      · obtain rfl := next_unique (exec_ret_empty hsp) h
        exact .inl rfl
      · obtain ⟨k, hk⟩ : ∃ k : Fin 16, s.sp.val = k.val + 1 := ⟨⟨s.sp.val - 1, by omega⟩, by simp only; omega⟩
        obtain rfl := next_unique (exec_ret_held hk) h
        exact .inl rfl
    · by_cases hsp : s.sp.val = 16
      · obtain rfl := next_unique (exec_call_full nnn hsp) h
        exact .inl rfl
      · have hroom : s.sp.val < 16 := by omega
        obtain rfl := next_unique (exec_call_room nnn hroom) h
        exact .inr ⟨hroom, rfl⟩
  · exact .inl ((exec_frame h).2 .callStack hmem).1

/-- An instruction ends waiting only if it is an `FX0A` that stays in place (R233). -/
theorem exec_waiting {i : Instr} {s t : State} {x : RegNum} (h : exec i s = .next t) (hwait : s.wait = none)
    (hx : t.wait = some x) : i = .ldVxKey x ∧ t.fault = s.fault ∧ t.mem = s.mem ∧ t.pc = s.pc := by
  by_cases hmem : .waitState ∈ i.touches
  · obtain ⟨y, rfl⟩ := Instr.eq_ldVxKey_of_mem hmem
    obtain rfl := next_unique (exec_ldVxKey s y) h
    cases hevent : s.inp.keyEvent with
    | none =>
      rw [State.pollKey_none (s.setWait (some y)) y hevent] at hx ⊢
      obtain rfl : y = x := Option.some.inj hx
      exact ⟨rfl, rfl, rfl, rfl⟩
    | some k =>
      rw [(State.pollKey_event (s := s.setWait (some y)) hevent).2.1] at hx
      cases hx
  · have hsame : t.wait = s.wait := (exec_frame h).2 .waitState hmem
    rw [hsame, hwait] at hx
    cases hx

/-! ### The invariant is kept -/

theorem State.Inv.prepared {s : State} (h : s.Inv) : s.prepared.Inv where
  memForm := by rw [s.prepared_mem]; exact h.memForm
  pcBound := by rw [s.prepared_pc]; exact h.pcBound
  slotBound := by rw [s.prepared_stack]; exact h.slotBound
  waiting := by rw [s.prepared_wait, s.prepared_fault, s.prepared_fetch]; exact h.waiting

/-- A fault taken while nothing is waited for (R130). -/
theorem State.Inv.raise {s : State} (h : s.Inv) (hwait : s.wait = none) (r : Fault) : (s.raise r).Inv where
  memForm := h.memForm
  pcBound := h.pcBound
  slotBound := h.slotBound
  waiting x hx := by
    rw [State.raise_wait, hwait] at hx
    cases hx

/-- A poll: the machine stays on its `FX0A`, or leaves it by two bytes (R234). -/
theorem State.Inv.pollKey {s : State} {x : RegNum} (h : s.Inv) (hwait : s.wait = some x) : (s.pollKey x).Inv where
  memForm := by rw [s.pollKey_mem]; exact h.memForm
  slotBound := by rw [s.pollKey_stack]; exact h.slotBound
  pcBound := by
    obtain ⟨w, hfetch, -⟩ := Option.map_eq_some_iff.1 (h.waiting x hwait).2
    have hpc := pc_le_of_fetch hfetch
    rw [s.pollKey_pc_toNat x]
    split <;> omega
  waiting y hy := by
    cases hevent : s.inp.keyEvent with
    | none =>
      rw [s.pollKey_none x hevent] at hy ⊢
      exact h.waiting y hy
    | some k =>
      rw [(State.pollKey_event hevent).2.1] at hy
      cases hy

/-- An instruction run from the word that was fetched. -/
theorem State.Inv.exec {s t : State} {w : Word} (h : s.Inv) (hfault : s.fault = none) (hwait : s.wait = none)
    (hfetch : s.fetch = some w) (ht : exec (decodeWord w) s = .next t) : t.Inv := by
  obtain ⟨r, -, rfl⟩ | ⟨-, hc⟩ := exec_cases ht
  · exact h.raise hwait r
  have hpc := pc_le_of_fetch hfetch
  refine ⟨hc.memForm h.memForm, hc.pc.trans_le (pcAfter_le _ hpc h.slotBound), fun k => ?_, fun x hx => ?_⟩
  · obtain hstack | ⟨hsp, hstack⟩ := exec_stack ht
    · rw [hstack]
      exact h.slotBound k
    · rw [hstack, Fin.getElem_fin, Vector.getElem_set]
      split
      · rw [BitVec.toNat_add]
        exact (show (s.pc.toNat + 2) % 65536 ≤ 0x1000 by omega)
      · exact h.slotBound k
  · obtain ⟨hi, hfault', hmem, hpc'⟩ := exec_waiting ht hwait hx
    rw [fetch_congr hmem hpc', hfetch, Option.map_some, hi]
    exact ⟨hfault'.trans hfault, rfl⟩

/-- Settles O12: latched, waiting, a failed fetch or an execution, each in the prepared state, keeps the invariant. -/
theorem stepKeepsTheInvariant : Obligations.StepKeepsTheInvariant := by
  intro s t hinv ht
  obtain ⟨r, hfault, h⟩ | ⟨x, -, hwait, h⟩ | ⟨-, hwait, -, h⟩ | ⟨w, hfault, hwait, hfetch, h⟩ := step_cases s
  · obtain rfl := next_unique h ht
    refine ⟨hinv.memForm, hinv.pcBound, hinv.slotBound, fun x hx => ?_⟩
    exact absurd (hfault.symm.trans (hinv.waiting x hx).1) (by simp)
  · obtain rfl := next_unique h ht
    exact hinv.prepared.pollKey (s.prepared_wait.trans hwait)
  · obtain rfl := next_unique h ht
    exact hinv.prepared.raise (s.prepared_wait.trans hwait) _
  · exact hinv.prepared.exec (s.prepared_fault.trans hfault) (s.prepared_wait.trans hwait)
      (s.prepared_fetch.trans hfetch) (h.symm.trans ht)

end Sys2Proof.Machine
end

section
/-! Words placed in memory and run by the next step: the host's `withFetchWord` (notes/assumptions/7.md) and a store over code
(spec/20_memory.md R77). -/

namespace Sys2Proof.Machine

/-! ### A word placed at pc -/

theorem decodeWord_of_decodeTableWord {nbits w : Nat} {i : Instr} (h : decodeTableWord nbits w = some i) :
    decodeWord (tableWord nbits w) = i := by
  rw [← joinBytes_high_low (tableWord nbits w)]
  exact Option.some.inj h

/-- After a placing the word is fetched. -/
theorem fetch_placeWord {s : State} (hmem : s.mem.wf = true) (hpc : s.pc.toNat + 1 < Config.memSize) (w : Word) :
    (s.placeWord w).fetch = some w := by
  have hroom : s.pc.toNat + (bytesOf w).length ≤ Config.memSize := hpc
  have hhigh : (s.placeWord w).mem.read s.pc.toNat = highByte w := by
    rw [State.placeWord, State.withMem_mem, Memory.read_writeBytes hmem hroom, if_pos (by simp [bytesOf])]
    simp [bytesOf]
  have hlow : (s.placeWord w).mem.read (s.pc.toNat + 1) = lowByte w := by
    rw [State.placeWord, State.withMem_mem, Memory.read_writeBytes hmem hroom, if_pos (by simp [bytesOf])]
    simp [bytesOf]
  rw [fetch_inside (s := s.placeWord w) hpc]
  exact congrArg some ((congrArg₂ joinBytes hhigh hlow).trans (joinBytes_high_low w))

/-- A placing keeps every byte but the two at pc. -/
theorem read_placeWord_elsewhere {s : State} (hmem : s.mem.wf = true) (hpc : s.pc.toNat + 1 < Config.memSize) (w : Word)
    {a : Nat} (ha : a ≠ s.pc.toNat) (ha' : a ≠ s.pc.toNat + 1) : (s.placeWord w).mem.read a = s.mem.read a := by
  have hroom : s.pc.toNat + (bytesOf w).length ≤ Config.memSize := hpc
  rw [State.placeWord, State.withMem_mem, Memory.read_writeBytes hmem hroom, if_neg]
  rw [bytesOf, List.length_cons, List.length_singleton]
  omega

theorem State.readyToFetch_pc_lt (s : State) : s.readyToFetch.pc.toNat + 1 < Config.memSize := by
  have hbase : (BitVec.ofNat 16 Config.progBase).toNat + 1 < Config.memSize := by decide
  simp only [State.readyToFetch]
  split
  · assumption
  · exact hbase

/-- A state that is ready stays as it is. -/
theorem State.readyToFetch_of_ready {s : State} (hfault : s.fault = none) (hwait : s.wait = none)
    (hpc : s.pc.toNat + 1 < Config.memSize) : s.readyToFetch = s := by
  rw [State.readyToFetch, if_pos hpc, ← hfault, ← hwait]

/-- Settles O17: the step fetches the two bytes placed. -/
theorem placedWordRunsNext : Obligations.PlacedWordRunsNext := by
  intro s nbits w i hmem hi
  have hfetch : (s.withFetchWord nbits w).fetch = some (tableWord nbits w) :=
    fetch_placeWord (s := s.readyToFetch) hmem s.readyToFetch_pc_lt _
  refine ⟨?_, fun hfault hwait hpc => ?_⟩
  · rw [← decodeWord_of_decodeTableWord hi]
    exact step_runs rfl rfl hfetch
  · have hpc' : s.pc.toNat + 1 < Config.memSize := show s.pc.toNat + 1 < 4096 by omega
    rw [State.withFetchWord, State.readyToFetch_of_ready hfault hwait hpc']
    exact ⟨rfl, s.withMem_frame _, fun a ha ha' => read_placeWord_elsewhere hmem hpc' _ ha ha'⟩

/-! ### The block store and load (R195, R196) -/

/-- What the store of V0 to VX leaves at `a + k`. -/
theorem read_storeRange_inside {m : Memory} {v : RegFile} {a : Nat} {x k : RegNum} (hm : m.wf = true)
    (ha : a + x.val ≤ 4095) (hk : k ≤ x) : (storeRange v a m (x.val + 1)).read (a + k.val) = v[k] := by
  have hkx : k.val ≤ x.val := hk
  rw [read_storeRange hm _ (by omega) (show a + (x.val + 1) ≤ 4096 by omega), dif_pos (by omega)]
  simp

theorem read_storeRange_outside {m : Memory} {v : RegFile} {a b : Nat} {x : RegNum} (hm : m.wf = true)
    (ha : a + x.val ≤ 4095) (hb : b < a ∨ a + x.val < b) : (storeRange v a m (x.val + 1)).read b = m.read b := by
  rw [read_storeRange hm _ (by omega) (show a + (x.val + 1) ≤ 4096 by omega), dif_neg (by omega)]

/-- Settles O47: the store leaves V0 and V1 under the pc it moves to. -/
theorem storeOverCodeIsFetchedNext : Obligations.StoreOverCodeIsFetchedNext := by
  intro x s hmem hfault hwait hx hI htop
  have hpc : (s.afterStore x).pc.toNat = s.I.toNat := by
    rw [State.afterStore, State.advance_pc_toNat, State.withMem_pc]
    omega
  have hV0 : (s.afterStore x).mem.read s.I.toNat = s.readV 0 :=
    read_storeRange_inside (k := 0) hmem htop (Fin.zero_le x)
  have hV1 : (s.afterStore x).mem.read (s.I.toNat + 1) = s.readV 1 :=
    read_storeRange_inside (k := 1) hmem htop (Fin.le_def.2 hx)
  have hword : (s.afterStore x).wordAt (s.afterStore x).pc.toNat = 256 * (s.readV 0).toNat + (s.readV 1).toNat := by
    rw [hpc, State.wordAt, hV0, hV1]
  refine ⟨_, exec_storeRegs_inside htop, ?_⟩
  rw [← hword]
  exact step_runs hfault hwait (fetch_of_pc_le (hpc.trans_le (by omega)))

end Sys2Proof.Machine
end

section
/-! One instruction at a time (spec/41_control_flow.md to spec/46_timers.md). Where pc goes and what stays is what
`exec_completes` says of every instruction; what is left is the value each of them writes. -/

namespace Sys2Proof.Machine

/-! ### Unknown codes, jumps, calls, skips -/

/-- Settles O26: all four rows share one meaning. -/
theorem unknownCodesAreNoOps : Obligations.UnknownCodesAreNoOps := fun _ s h =>
  ⟨_, exec_unknown s h, State.advance_pc_toNat _, rfl, s.unknownNoOp_frame⟩

/-- Settles O28: the sum of a 12-bit and an 8-bit number does not wrap. -/
theorem jumpWithOffsetAddsV0 : Obligations.JumpWithOffsetAddsV0 := fun nnn s =>
  ⟨_, exec_jpV0 s nnn, jumpSum_toNat nnn _, (exec_completes (exec_jpV0 s nnn) rfl).frame⟩

/-- The slots after a push (R142). -/
theorem getElem_pushed (s : State) (h : s.sp.val < 16) (a : Word) (k : Fin 16) :
    (s.stack.set s.sp.val a)[k] = if k.val = s.sp.val then a else s.stack[k] := by
  rw [Fin.getElem_fin, Vector.getElem_set]
  exact if_congr eq_comm rfl rfl

/-- Settles O29: the slot at sp is the one pushed. -/
theorem callPushesTheReturnAddress : Obligations.CallPushesTheReturnAddress := by
  intro nnn s hsp
  refine ⟨_, exec_call_room nnn hsp, zext16_toNat (by decide) nnn, rfl, fun k => ?_, (s.withStack_frame _ _).setPc _⟩
  refine (congrArg BitVec.toNat (getElem_pushed s hsp (s.pc + 2) k)).trans ?_
  split
  · rw [BitVec.toNat_add]
    rfl
  · rfl

/-- Settles O30: the push fails. -/
theorem seventeenthCallOverflows : Obligations.SeventeenthCallOverflows := fun nnn s hsp =>
  ⟨_, exec_call_full nnn hsp, rfl, rfl, rfl, s.raise_frame _⟩

/-- Settles O31: the two outcomes of a pop. -/
theorem returnPopsIntoPc : Obligations.ReturnPopsIntoPc := fun s =>
  ⟨fun _ hk => ⟨_, exec_ret_held hk, rfl, rfl, rfl, (s.withStack_frame _ _).setPc _⟩,
    fun hsp => ⟨_, exec_ret_empty hsp, rfl, rfl, rfl, s.raise_frame _⟩⟩

/-- Settles O32: the return pops the slot the call has pushed. -/
theorem returnUndoesCall : Obligations.ReturnUndoesCall := by
  intro nnn s hsp
  have hpushed := getElem_pushed s hsp (s.pc + 2)
  refine ⟨_, _, exec_call_room nnn hsp, exec_ret_held (k := ⟨s.sp.val, hsp⟩) rfl, ?_, rfl, fun k hk => ?_,
    (((s.withStack_frame _ _).setPc _).trans (State.withStack_frame _ _ _)).setPc _⟩
  · refine (congrArg BitVec.toNat ((hpushed ⟨s.sp.val, hsp⟩).trans (if_pos rfl))).trans ?_
    rw [BitVec.toNat_add]
    rfl
  · exact (hpushed k).trans (if_neg hk)

theorem skipTarget_not (s : State) (c : Prop) [Decidable c] :
    skipTarget s (¬ c) = (s.pc.toNat + if c then 2 else 4) % 65536 := by
  rw [skipTarget, ite_not]

/-- Settles O33: each is a skip, whose target is the table's. -/
theorem skipsCompareRegisters : Obligations.SkipsCompareRegisters := by
  intro x y kk n s
  have hseImm := exec_completes (exec_seImm s x kk) rfl
  have hsneImm := exec_completes (exec_sneImm s x kk) rfl
  have hseReg := exec_completes (exec_seReg s x y n) rfl
  have hsneReg := exec_completes (exec_sneReg s x y n) rfl
  simp only [BitVec.toNat_inj, ← skipTarget_not]
  exact ⟨⟨_, exec_seImm s x kk, hseImm.frame, hseImm.pc⟩, ⟨_, exec_sneImm s x kk, hsneImm.frame, hsneImm.pc⟩,
    ⟨_, exec_seReg s x y n, hseReg.frame, hseReg.pc⟩, ⟨_, exec_sneReg s x y n, hsneReg.frame, hsneReg.pc⟩⟩

/-! ### Registers -/

/-- Settles O35: each finishes with one register write, read bit by bit. -/
theorem copyAndLogicLeaveVfAlone : Obligations.CopyAndLogicLeaveVfAlone := by
  intro x y s
  refine ⟨⟨_, exec_ldReg s x y, s.finish_readV_same x _, s.finish_pc_toNat x _, s.finish_frame x _⟩,
    ⟨_, exec_orReg s x y, fun j => ?_, s.finish_pc_toNat x _, s.finish_frame x _⟩,
    ⟨_, exec_andReg s x y, fun j => ?_, s.finish_pc_toNat x _, s.finish_frame x _⟩,
    ⟨_, exec_xorReg s x y, fun j => ?_, s.finish_pc_toNat x _, s.finish_frame x _⟩⟩
  · rw [State.finish_readV_same, BitVec.getLsbD_or]
  · rw [State.finish_readV_same, BitVec.getLsbD_and]
  · rw [State.finish_readV_same, BitVec.getLsbD_xor]

/-- Settles O41: one register write, read bit by bit. -/
theorem randomIsMaskedByKK : Obligations.RandomIsMaskedByKK := fun x kk s =>
  ⟨_, exec_rnd s x kk, fun _ => by rw [State.finish_readV_same, BitVec.getLsbD_and], s.finish_pc_toNat x _,
    s.finish_frame x _⟩

/-- The flag is written last, so VF ends as the flag whatever X is (R160 c). -/
@[simp] theorem State.finishFlag_readV_VF (s : State) (x : RegNum) (v f : Byte) : (s.finishFlag x v f).readV VF = f := by
  rw [State.finishFlag, State.advance_readV, State.readV_writeV_same]

theorem State.finishFlag_readV_dest (s : State) {x : RegNum} (h : x ≠ VF) (v f : Byte) :
    (s.finishFlag x v f).readV x = v := by
  rw [State.finishFlag, State.advance_readV, State.readV_writeV, if_neg h, State.readV_writeV_same]

theorem State.finishFlag_pc_toNat (s : State) (x : RegNum) (v f : Byte) :
    (s.finishFlag x v f).pc.toNat = (s.pc.toNat + 2) % 65536 := State.advance_pc_toNat _

theorem carryFlag_toNat (a b : Byte) : (carryFlag a b).toNat = if a.toNat + b.toNat > 255 then 1 else 0 := by
  simp [carryFlag, flagByte_toNat]

theorem greaterFlag_toNat (a b : Byte) : (greaterFlag a b).toNat = if a.toNat > b.toNat then 1 else 0 := by
  simp [greaterFlag, flagByte_toNat]

theorem lowBitFlag_toNat (a : Byte) : (lowBitFlag a).toNat = a.toNat % 2 := by
  rw [lowBitFlag, flagByte_toNat, BitVec.getLsbD, Nat.testBit_zero]
  rcases Nat.mod_two_eq_zero_or_one a.toNat with h | h <;> simp [h]

theorem highBitFlag_toNat (a : Byte) : (highBitFlag a).toNat = a.toNat / 128 := by
  rw [highBitFlag, flagByte_toNat, BitVec.getLsbD, Nat.testBit_eq_decide_div_mod_eq]
  have ha := a.isLt
  split <;> simp_all <;> omega

/-- Settles O36: the byte sum, then the carry. -/
theorem addSetsCarry : Obligations.AddSetsCarry := by
  intro x y s
  refine ⟨_, exec_addReg s x y, ?_, fun hx => ?_, s.finishFlag_pc_toNat x _ _, s.finishFlag_frame x _ _⟩
  · rw [State.finishFlag_readV_VF, carryFlag_toNat]
  · rw [State.finishFlag_readV_dest s hx, BitVec.toNat_add]

/-- Settles O37: the byte difference, then the strict comparison. -/
theorem subtractSetsStrictFlag : Obligations.SubtractSetsStrictFlag := by
  intro x y s
  refine ⟨_, exec_subReg s x y, ?_, fun hx => ?_, s.finishFlag_pc_toNat x _ _, s.finishFlag_frame x _ _⟩
  · rw [State.finishFlag_readV_VF, greaterFlag_toNat]
  · rw [State.finishFlag_readV_dest s hx, BitVec.toNat_sub]
    omega

/-- Settles O38: as `8XY5` with the operands swapped. -/
theorem reverseSubtractSetsStrictFlag : Obligations.ReverseSubtractSetsStrictFlag := by
  intro x y s
  refine ⟨_, exec_subnReg s x y, ?_, fun hx => ?_, s.finishFlag_pc_toNat x _ _, s.finishFlag_frame x _ _⟩
  · rw [State.finishFlag_readV_VF, greaterFlag_toNat]
  · rw [State.finishFlag_readV_dest s hx, BitVec.toNat_sub]
    omega

/-- Settles O39: a shift is a quotient, the flag a remainder. -/
theorem shiftRightHalves : Obligations.ShiftRightHalves := by
  intro x y s
  refine ⟨_, exec_shr s x y, ?_, fun hx => ?_, s.finishFlag_pc_toNat x _ _, s.finishFlag_frame x _ _⟩
  · rw [State.finishFlag_readV_VF, lowBitFlag_toNat]
  · rw [State.finishFlag_readV_dest s hx, BitVec.toNat_ushiftRight, Nat.shiftRight_eq_div_pow]

/-- Settles O40: a shift is a product, the flag a quotient. -/
theorem shiftLeftDoubles : Obligations.ShiftLeftDoubles := by
  intro x y s
  refine ⟨_, exec_shl s x y, ?_, fun hx => ?_, s.finishFlag_pc_toNat x _ _, s.finishFlag_frame x _ _⟩
  · rw [State.finishFlag_readV_VF, highBitFlag_toNat]
  · rw [State.finishFlag_readV_dest s hx, BitVec.toNat_shiftLeft, Nat.shiftLeft_eq, Nat.mul_comm]

/-! ### Index register, stores and loads -/

theorem fontAddress_toNat (d : Fin 16) : (fontAddress d).toNat = 5 * d.val := by
  have hfont : fontAddress d = BitVec.ofNat 16 (0 + 5 * d.val) := rfl
  rw [hfont, BitVec.toNat_ofNat]
  omega

/-- Settles O42: one write of I each. -/
theorem indexLoadsAndAdds : Obligations.IndexLoadsAndAdds := by
  intro nnn x s
  refine ⟨⟨_, exec_ldI s nnn, zext16_toNat (by decide) nnn, State.advance_pc_toNat _, (s.writeI_frame _).setPc _⟩,
    ⟨_, exec_addI s x, ?_, State.advance_pc_toNat _, (s.writeI_frame _).setPc _⟩,
    ⟨_, exec_ldFont s x, ?_, State.advance_pc_toNat _, (s.writeI_frame _).setPc _⟩⟩
  · rw [State.advance_I, State.writeI_I, BitVec.toNat_add, zext16_toNat (by decide)]
  · rw [State.advance_I, State.writeI_I, fontAddress_toNat, lowNibble_val]

/-- The digits of a byte where `FX33` puts them (R194). -/
theorem read_bcdStored {m : Memory} {a : Nat} (v : Byte) (hm : m.wf = true) (ha : a ≤ 4093) :
    ((m.writeBytes a (bcdDigits v)).read a).toNat = v.toNat / 100 ∧
    ((m.writeBytes a (bcdDigits v)).read (a + 1)).toNat = v.toNat / 10 % 10 ∧
    ((m.writeBytes a (bcdDigits v)).read (a + 2)).toNat = v.toNat % 10 ∧
    ∀ b, b < a ∨ a + 2 < b → (m.writeBytes a (bcdDigits v)).read b = m.read b := by
  have hv := v.isLt
  have hlen := bcdDigits_length v
  have hread := Memory.read_writeBytes (bs := bcdDigits v) hm (show a + 3 ≤ 4096 by omega)
  refine ⟨?_, ?_, ?_, fun b hb => ?_⟩
  · rw [hread, if_pos (by omega), Nat.sub_self]
    exact Nat.mod_eq_of_lt (by omega)
  · rw [hread, if_pos (by omega), Nat.add_sub_cancel_left]
    exact Nat.mod_eq_of_lt (by omega)
  · rw [hread, if_pos (by omega), Nat.add_sub_cancel_left]
    exact Nat.mod_eq_of_lt (by omega)
  · rw [hread, if_neg (by omega)]

/-- Settles O43: the digits are placed inside memory or nothing is. -/
theorem bcdStoresThreeDigits : Obligations.BcdStoresThreeDigits := by
  intro x s hmem
  refine ⟨fun hI => ?_, fun hI => ⟨_, exec_ldBcd_outside (by omega), rfl, rfl, rfl, s.raise_frame _⟩⟩
  obtain ⟨hhundreds, htens, hunits, helse⟩ := read_bcdStored (s.readV x) hmem hI
  exact ⟨_, exec_ldBcd_inside (by omega), hhundreds, htens, hunits, helse, State.advance_pc_toNat _,
    (s.withMem_frame _).setPc _⟩

/-- Settles O44: the registers are placed inside memory or nothing is. -/
theorem storeWritesV0ToVx : Obligations.StoreWritesV0ToVx := by
  intro x s hmem
  refine ⟨fun hI => ?_, fun hI => ⟨_, exec_storeRegs_outside hI, rfl, rfl, rfl, s.raise_frame _⟩⟩
  exact ⟨_, exec_storeRegs_inside hI, fun k hk => read_storeRange_inside hmem hI hk,
    fun a ha => read_storeRange_outside hmem hI ha, State.advance_pc_toNat _, (s.withMem_frame _).setPc _⟩

/-- Settles O45: the registers are read from memory or the fault is taken. -/
theorem loadReadsV0ToVx : Obligations.LoadReadsV0ToVx := by
  intro x s
  refine ⟨fun hI => ?_, fun hI => ⟨_, exec_loadRegs_outside hI, rfl, rfl, rfl, s.raise_frame _⟩⟩
  exact ⟨_, exec_loadRegs_inside hI, loadRange_getElem x, State.advance_pc_toNat _, (s.loadRange_frame x _).setPc _⟩

/-- Settles O46: the store leaves I, so the load reads back the bytes stored. -/
theorem loadAfterStoreRestoresRegisters : Obligations.LoadAfterStoreRestoresRegisters := by
  intro x s v hmem hI
  refine ⟨_, _, exec_storeRegs_inside hI, exec_loadRegs_inside (s := (s.afterStore x).withV v) hI, fun k => ?_⟩
  refine (loadRange_getElem x k).trans ?_
  by_cases hk : k ≤ x
  · rw [if_pos hk, if_pos hk]
    exact read_storeRange_inside hmem hI hk
  · rw [if_neg hk, if_neg hk]
    rfl

/-! ### Display -/

/-- Settles O48: the blank display has no lit pixel. -/
theorem clearBlanksTheDisplay : Obligations.ClearBlanksTheDisplay := fun s =>
  ⟨_, exec_cls s, Framebuffer.pixel_blank, State.advance_pc_toNat _, (s.withFb_frame _).setPc _⟩

/-- The draw's own account of the pixels it lights is the statement's (R213, R214). -/
theorem spriteLights_iff (s : State) (x y : RegNum) (n : Nat) (px : Fin 64) (py : Fin 32) :
    SpriteLights s x y n px py ↔ RowsLight s.mem s.I.toNat (s.readV x) (s.readV y) n px py := by
  constructor
  · rintro ⟨r, c, hr, hc, hx, hy, hbit⟩
    exact ⟨r, hr, Fin.ext hy, c, hc, Fin.ext hx, hbit⟩
  · rintro ⟨r, hr, hy, c, hc, hx, hbit⟩
    exact ⟨r, c, hr, hc, congrArg Fin.val hx, congrArg Fin.val hy, hbit⟩

/-- What a draw does to each pixel, and when it collides (R212, R215). -/
theorem drawSprite_spec (s : State) (x y : RegNum) (n : Nibble) :
    (∀ px py, SpriteLights s x y n.toNat px py →
      (s.drawSprite x y n.toNat).1.pixel px py = !s.fb.pixel px py) ∧
    (∀ px py, ¬ SpriteLights s x y n.toNat px py →
      (s.drawSprite x y n.toNat).1.pixel px py = s.fb.pixel px py) ∧
    ((s.drawSprite x y n.toNat).2 = true ↔
      ∃ px py, SpriteLights s x y n.toNat px py ∧ s.fb.pixel px py = true) := by
  simp only [spriteLights_iff]
  obtain ⟨hpixels, hhit⟩ :=
    drawRows_spec s.mem s.I.toNat (s.readV x) (s.readV y) (s.fb, false) n.toNat (Nat.le_of_lt n.isLt)
  exact ⟨fun px py => (hpixels px py).1, fun px py => (hpixels px py).2, hhit.trans (by simp)⟩

/-- VF after a draw is the collision (R215). -/
theorem State.afterDraw_readV_VF (s : State) (d : DrawAcc) :
    ((s.afterDraw d).readV VF).toNat = if d.2 then 1 else 0 := by
  rw [State.afterDraw, State.advance_readV, State.readV_writeV_same, flagByte_toNat]

/-- Settles O49: by what a draw does to each pixel. -/
theorem drawXorsTheSpriteAndReportsCollision : Obligations.DrawXorsTheSpriteAndReportsCollision := by
  intro x y n s hI
  obtain ⟨hlit, hunlit, hhit⟩ := drawSprite_spec s x y n
  refine ⟨_, exec_drw_inside hI, hlit, hunlit, fun hmeets => ?_, fun hmisses => ?_, State.advance_pc_toNat _,
    s.afterDraw_frame _⟩
  · rw [State.afterDraw_readV_VF, if_pos (hhit.2 hmeets)]
  · have hno : ¬ (s.drawSprite x y n.toNat).2 = true := fun h => by
      obtain ⟨px, py, hl, hp⟩ := hhit.1 h
      simp [hmisses px py hl] at hp
    rw [State.afterDraw_readV_VF, if_neg hno]

/-- Settles O50: both draws light the same pixels, and flipping twice restores. -/
theorem drawingTwiceRestoresTheDisplay : Obligations.DrawingTwiceRestoresTheDisplay := by
  intro x y n s hI
  obtain ⟨hlit, hunlit, -⟩ := drawSprite_spec s x y n
  obtain ⟨hlit', hunlit', -⟩ := drawSprite_spec (s.withFb (s.drawSprite x y n.toNat).1) x y n
  refine ⟨_, _, exec_drw_inside hI, exec_drw_inside (s := s.withFb (s.drawSprite x y n.toNat).1) hI, ?_⟩
  refine Framebuffer.ext_pixel fun px py => ?_
  by_cases h : SpriteLights s x y n.toNat px py
  · refine (hlit' px py h).trans ?_
    rw [State.withFb_fb, hlit px py h, Bool.not_not]
  · exact (hunlit' px py h).trans (hunlit px py h)

/-- Bit `64·y + x` of the rows laid out is bit `x` of row `y` (R45). -/
theorem testBit_rowsWord (rows : List (BitVec 64)) (y x : Nat) (hx : x < 64) (hy : y < rows.length) :
    (rowsWord rows).testBit (64 * y + x) = rows[y].getLsbD x := by
  induction rows generalizing y with
  | nil => cases hy
  | cons r rs ih =>
    rw [rowsWord, Nat.add_comm r.toNat, Nat.testBit_two_pow_mul_add _ r.isLt]
    cases y with
    | zero => simp [hx, BitVec.getLsbD]
    | succ y =>
      have hshift : 64 * (y + 1) + x - 64 = 64 * y + x := by omega
      rw [if_neg (by omega), hshift, ih y (Nat.lt_of_succ_lt_succ hy)]
      rfl

/-- Settles O51: the row and the column of a bit. -/
theorem snapshotBitIsThePixel : Obligations.SnapshotBitIsThePixel := by
  intro s x y
  have hbound : 64 * y.val + x.val < 2048 := by omega
  rw [State.fbOut, BitVec.getLsbD_ofNat, testBit_rowsWord _ _ _ x.isLt (by simp), Framebuffer.pixel]
  simp [hbound]

/-! ### Keypad and timers -/

/-- Settles O52: each is a skip on the level of one key. -/
theorem keySkipsTestTheLevel : Obligations.KeySkipsTestTheLevel := by
  intro x s
  have hskp := exec_completes (exec_skp s x) rfl
  have hsknp := exec_completes (exec_sknp s x) rfl
  simp only [← skipTarget_not, Bool.not_eq_true]
  exact ⟨⟨_, exec_skp s x, hskp.frame, hskp.pc⟩, ⟨_, exec_sknp s x, hsknp.frame, hsknp.pc⟩⟩

/-- Settles O53: the poll in the state that has begun to wait. -/
theorem keyWaitBlocksOrCompletes : Obligations.KeyWaitBlocksOrCompletes := by
  intro x s
  have hc := exec_completes (exec_ldVxKey s x) rfl
  have hout := (s.setWait (some x)).pollKey_out x
  refine ⟨fun hevent => ?_, fun k hevent => ?_⟩
  · have hpoll := (s.setWait (some x)).pollKey_none x hevent
    exact ⟨_, (exec_ldVxKey s x).trans (congrArg _ hpoll), rfl, rfl, rfl,
      ((s.setWait_frame _).mono (List.Subset.refl _) (by simp)).trans
        ((State.strobeKeyPoll_frame _).mono (List.Subset.refl _) (by simp))⟩
  · obtain ⟨hkey, hwait, hpc⟩ := State.pollKey_event (s := s.setWait (some x)) (x := x) hevent
    exact ⟨_, exec_ldVxKey s x, hkey, hwait, hpc, hout, hc.frame⟩

/-- Settles O54: one write each. -/
theorem timerInstructionsMoveOneTimer : Obligations.TimerInstructionsMoveOneTimer := fun x s =>
  ⟨⟨_, exec_ldVxDt s x, s.finish_readV_same x _, s.finish_pc_toNat x _, s.finish_frame x _⟩,
    ⟨_, exec_ldDtVx s x, rfl, State.advance_pc_toNat _, (s.writeDT_frame _).setPc _⟩,
    ⟨_, exec_ldStVx s x, rfl, State.advance_pc_toNat _, (s.writeST_frame _).setPc _⟩⟩

end Sys2Proof.Machine
end
